-- ==== Sys2Proof/Word.lean ====
section
/-!
DEFINITION. What crosses the block's boundary: the byte of the wire (R50), the request of a host operation
(R63, R130), and the receive states that say how a byte is read (R11).
-/

namespace Sys2Proof

/-- One symbol of the wire, and one intensity value (R31, R50). -/
abbrev Byte := BitVec 8

/-- The eight values of `state` and no others, in the source's listing order (R11). They are the machine's
sequencing state, and the context in which the decoder reads a byte (R58). -/
inductive DecState where
  /-- "waiting for frame start" -/
  | init
  /-- a START has been seen; the next byte is the command byte -/
  | command
  /-- channel data bytes are being received -/
  | data
  /-- the next byte is the opcode of a special command -/
  | specialOpcode
  /-- the next byte is the data byte of a special command, or ESCAPE -/
  | specialData
  /-- the next byte is the escaped data byte of a special command -/
  | specialEscape
  /-- the previous byte in `data` was ESCAPE -/
  | escape
  /-- "frame exhausted until next START" -/
  | complete
deriving DecidableEq, Repr

/-- One host operation as it is asked for: the 4-bit operation id of R63, its integer operand (`op_arg` of R144:
capacity_req, local_index, new_offset or ms; 0 where there is none) and its pump flag. No byte order arises
(R36). DESIGN CHOICE, log 14: the spec's numbering is for the table only. -/
structure OpRequest where
  id   : BitVec 4
  arg  : Nat
  pump : Bool
deriving DecidableEq, Repr

/-- The two kinds of instruction word of the block (R1): a byte of the wire, or a host operation. -/
inductive InputWord where
  | byte (b : Byte)
  | request (r : OpRequest)
deriving DecidableEq, Repr

end Sys2Proof
end

