-- ==== Sys2Proof/Config.lean ====
section
/-!
DEFINITION. What is fixed for one block: the build parameters of R6, and the open values, which are opaque constants so
that nothing can be proved of their value.
-/

namespace Sys2Proof

/-- `ADDR_WIDTH`: "a build-time choice (8-bit, range 0–255, or 16-bit, range 0–65535)" (R6). Any other width cannot
be written down (U7). -/
inductive AddrWidth where
  | w8
  | w16
deriving DecidableEq, Repr

/-- The implementation parameters of R6. A state carries its own (DESIGN CHOICE, log 1), so a claim about all states
is a claim for all parameter values. -/
structure Config where
  /-- `ADDR_WIDTH` -/
  addrWidth       : AddrWidth
  /-- `CAP_MAX16`, the capacity's cap in the 16-bit configuration -/
  capMax16        : Nat
  /-- `TIME_WIDTH`, in bits -/
  timeWidth       : Nat
  /-- `RST_TIMEOUT` -/
  rstTimeout      : Nat
  /-- `RST_LAST_ACTIVITY` -/
  rstLastActivity : Nat
  /-- `RST_IDLE_FLAG` -/
  rstIdleFlag     : Bool
deriving DecidableEq, Repr

/-- The open parameters of the block that `State.reset` describes; free values of 16 and 32 bits and of one bit
(U2, U8; log 2, log 3). -/
opaque Config.openCapMax16 : BitVec 16
opaque Config.openRstTimeout : BitVec 32
opaque Config.openRstLastActivity : BitVec 32
opaque Config.openRstIdleFlag : Bool

/-- The n-th unspecified byte: what `sp_opcode`, `sp_data` and `sp_opcode_hold` hold after an INIT (U3, U4; log 5). -/
opaque Config.freeByte : Nat → Byte

/-- The parameters of the block that `State.reset` describes: the 8-bit configuration (DESIGN CHOICE, log 1), the
default `TIME_WIDTH` of 32 (R6), the rest open. -/
def Config.build : Config where
  addrWidth       := .w8
  capMax16        := Config.openCapMax16.toNat
  timeWidth       := 32
  rstTimeout      := Config.openRstTimeout.toNat
  rstLastActivity := Config.openRstLastActivity.toNat
  rstIdleFlag     := Config.openRstIdleFlag

end Sys2Proof
end

