-- ==== Sys2Proof/Machine/Constants.lean ====
section
/-!
DEFINITION. What follows from the parameters of R6 (`MAX_ADDRESS`, `CAP_MAX`, the time modulus, the parameters' ranges), and
the protocol constants of R6 and R51.
-/

namespace Sys2Proof

/-- The number of bits of a channel address, of `cursor`, `offset` and a local index (R6). -/
def Config.addrBits (c : Config) : Nat :=
  match c.addrWidth with
  | .w8 => 8
  | .w16 => 16

/-- `MAX_ADDRESS`, `2^ADDR_WIDTH - 1` (R6). -/
def Config.maxAddress (c : Config) : Nat := 2 ^ c.addrBits - 1

/-- `CAP_MAX`: 32 when `ADDR_WIDTH = 8`, the parameter `CAP_MAX16` when it is 16 (R6). -/
def Config.capMax (c : Config) : Nat :=
  match c.addrWidth with
  | .w8 => 32
  | .w16 => c.capMax16

/-- `2^TIME_WIDTH`: the time source counts milliseconds modulo this (R132). -/
def Config.timeModulus (c : Config) : Nat := 2 ^ c.timeWidth

/-- The ranges R6 gives the parameters. -/
def Config.wf (c : Config) : Bool :=
  decide (c.capMax16 ≤ 65535) && decide (c.rstTimeout < c.timeModulus)
    && decide (c.rstLastActivity < c.timeModulus)

/-- `START`, `PAD`, `ESCAPE`, `SPECIAL_COMMAND`, `MIN_CHANNEL_COMMAND` and the escape addend (R6, R51). -/
def Config.startByte : Byte := 0x7E#8
def Config.padByte : Byte := 0x7D#8
def Config.escapeByte : Byte := 0x7F#8
def Config.specialByte : Byte := 0x7A#8
def Config.minChannelByte : Byte := 0x80#8
def Config.escapeAddend : Byte := 0x4E#8

/-- The build-time `capacity_req` of the reset input (R171); 32 is a DESIGN CHOICE, log 4. -/
def Config.buildCapacityReq : Nat := 32

end Sys2Proof
end

