-- ==== Sys2Proof/Syntax.lean ====
section
/-!
DEFINITION. The instructions: one constructor per row of spec/opcode_table.json, fifteen rows selected by a byte and
the receive state (R58) and thirteen host operations (R63, R130).
-/

namespace Sys2Proof

/-- One constructor per row of the opcode table, in the table's order. Operands are already pulled out of the byte
or the request: a byte a row ignores stays an operand, so that encoding an instruction loses nothing. -/
inductive Instr where
  /-- PAD, R71: 0x7D in any state. -/
  | pad
  /-- START, R72: 0x7E in any state. -/
  | start
  /-- INIT.SKIP, R73: any other byte in state Init. -/
  | initSkip (b : Byte)
  /-- CMD.CH0, R74: 0x80 in state Command. -/
  | cmdCh0
  /-- CMD.CH, R75: 0x81 to 0xFF in state Command; `k` is `b[6:0]`, the group number. -/
  | cmdCh (k : BitVec 7)
  /-- CMD.SPECIAL, R76: 0x7A in state Command. -/
  | cmdSpecial
  /-- CMD.UNK, R77: any other byte in state Command. -/
  | cmdUnk (b : Byte)
  /-- DATA.ESC, R78: 0x7F in state Data. -/
  | dataEsc
  /-- DATA.LIT, R79: any other byte in state Data; `v` is the channel value. -/
  | dataLit (v : Byte)
  /-- ESC.VAL, R80: any byte in state Escape; the channel value is `(x + 0x4E) mod 256`. -/
  | escVal (x : Byte)
  /-- SP.OPCODE, R81: any byte in state SpecialOpcode; `op` is the opcode, never escaped. -/
  | spOpcode (op : Byte)
  /-- SP.ESC, R82: 0x7F in state SpecialData. -/
  | spEsc
  /-- SP.DATA, R83: any other byte in state SpecialData; `d` is the data byte. -/
  | spData (d : Byte)
  /-- SP.ESCVAL, R84: any byte in state SpecialEscape; the data byte is `(x + 0x4E) mod 256`. -/
  | spEscVal (x : Byte)
  /-- DONE.SKIP, R85: any other byte in state Complete. -/
  | doneSkip (b : Byte)
  /-- INIT, R133: initialize(channel_count, ...); the operands for the transport have no effect on the block. -/
  | init (capacityReq : Nat)
  /-- FEED, R134: feed-available-bytes(). -/
  | feed
  /-- READ, R135: read(local_address) with the pump boolean. -/
  | read (localIndex : Nat) (pump : Bool)
  /-- SET_OFFSET, R101: set-channel-offset(offset). -/
  | setOffset (newOffset : Nat)
  /-- GET_OFFSET, R103: get-channel-offset(). -/
  | getOffset
  /-- GET_COUNT, R104: get-channel-count(). -/
  | getCount
  /-- IS_IDLE, R111: is-idle(); `now` is sampled when the operation is performed. -/
  | isIdle
  /-- SET_TIMEOUT, R112: set-idle-timeout(ms). -/
  | setTimeout (ms : Nat)
  /-- GET_TIMEOUT, R113: get-idle-timeout(). -/
  | getTimeout
  /-- SP_AVAIL, R140: special-available() with the pump boolean. -/
  | spAvail (pump : Bool)
  /-- SP_OPCODE, R122: read-special-opcode(). -/
  | readSpOpcode
  /-- SP_DATA, R123: read-special-data(), the consuming read. -/
  | readSpData
  /-- SHUTDOWN, R143: shutdown(). -/
  | shutdown
deriving DecidableEq, Repr

end Sys2Proof
end

