-- ==== Sys2Proof/WellFormed.lean ====
section
/-!
DEFINITION. Which instructions exist: the byte values R58 gives each wire row, and operands of host operations that fit
the widths of R130.
-/

namespace Sys2Proof

/-- A byte that reaches the state dispatch: neither PAD nor START (R58). -/
def reachesDispatch (b : Byte) : Bool := b != Config.padByte && b != Config.startByte

/-- A byte that reaches the catch-all row of `Data` or `SpecialData`: not ESCAPE either (R58). -/
def isLiteral (b : Byte) : Bool := reachesDispatch b && b != Config.escapeByte

/-- A byte that is no command (R60): below 0x80, not PAD, not START, not SPECIAL_COMMAND. -/
def isUnrecognised (b : Byte) : Bool :=
  reachesDispatch b && b != Config.specialByte && decide (b < Config.minChannelByte)

/-- An unsigned operand of `ADDR_WIDTH` bits (R130). -/
def fitsAddress (c : Config) (n : Nat) : Bool := decide (n < 2 ^ c.addrBits)

/-- An unsigned operand of `TIME_WIDTH` bits (R130). -/
def fitsTime (c : Config) (n : Nat) : Bool := decide (n < c.timeModulus)

/-- The operands the encoding admits, per row (R58, R130). -/
def Instr.wf (c : Config) : Instr → Bool
  | .pad => true
  | .start => true
  | .initSkip b => reachesDispatch b
  | .cmdCh0 => true
  | .cmdCh k => k != 0#7
  | .cmdSpecial => true
  | .cmdUnk b => isUnrecognised b
  | .dataEsc => true
  | .dataLit v => isLiteral v
  | .escVal x => reachesDispatch x
  | .spOpcode op => reachesDispatch op
  | .spEsc => true
  | .spData d => isLiteral d
  | .spEscVal x => reachesDispatch x
  | .doneSkip b => reachesDispatch b
  | .init n => fitsAddress c n
  | .feed => true
  | .read i _ => fitsAddress c i
  | .setOffset o => fitsAddress c o
  | .getOffset => true
  | .getCount => true
  | .isIdle => true
  | .setTimeout ms => fitsTime c ms
  | .getTimeout => true
  | .spAvail _ => true
  | .readSpOpcode => true
  | .readSpData => true
  | .shutdown => true

end Sys2Proof
end

