-- ==== Sys2Proof/Decode.lean ====
section
/-!
DEFINITION. The decoder: the dispatch of R58/R70 for a byte in a receive state, the operation ids of R63 for a host
request, and the encoder, written from the same tables. Total; what has no meaning is rejected by name.
-/

namespace Sys2Proof

/-- Why a host request is no instruction. A byte is never rejected: R58's table is total. -/
inductive DecodeError where
  /-- An operation id R63 leaves unused (13 to 15). -/
  | unusedOperationId (id : Nat)
  /-- An operand that does not fit the width R130 gives it (log 13). -/
  | operandTooWide
deriving DecidableEq, Repr

/-- What the decoder answers. -/
inductive Decoded where
  | instr (i : Instr)
  | rejected (e : DecodeError)
deriving DecidableEq, Repr

/-- The group number of a channel command, `k = b[6:0]` (R54). -/
def groupNumber (b : Byte) : BitVec 7 := b.setWidth 7

/-- The row a byte selects in a receive state, in the order of R58 and R70: PAD, START, then the rows of the state. -/
def decodeByte (st : DecState) (b : Byte) : Instr :=
  if b = Config.padByte then .pad
  else if b = Config.startByte then .start
  else
    match st with
    | .init => .initSkip b
    | .command =>
      if b = Config.minChannelByte then .cmdCh0
      else if Config.minChannelByte < b then .cmdCh (groupNumber b)
      else if b = Config.specialByte then .cmdSpecial
      else .cmdUnk b
    | .data => if b = Config.escapeByte then .dataEsc else .dataLit b
    | .escape => .escVal b
    | .specialOpcode => .spOpcode b
    | .specialData => if b = Config.escapeByte then .spEsc else .spData b
    | .specialEscape => .spEscVal b
    | .complete => .doneSkip b

/-- A host operation whose operand must fit (R130). -/
def withOperand (fits : Bool) (i : Instr) : Decoded :=
  if fits then .instr i else .rejected .operandTooWide

/-- The host operation a request names (R63, R130). An operation without an operand ignores `arg` and `pump`. -/
def decodeRequest (c : Config) (r : OpRequest) : Decoded :=
  match r.id.toNat with
  | 0 => withOperand (fitsAddress c r.arg) (.init r.arg)
  | 1 => .instr .feed
  | 2 => withOperand (fitsAddress c r.arg) (.read r.arg r.pump)
  | 3 => withOperand (fitsAddress c r.arg) (.setOffset r.arg)
  | 4 => .instr .getOffset
  | 5 => .instr .getCount
  | 6 => .instr .isIdle
  | 7 => withOperand (fitsTime c r.arg) (.setTimeout r.arg)
  | 8 => .instr .getTimeout
  | 9 => .instr (.spAvail r.pump)
  | 10 => .instr .readSpOpcode
  | 11 => .instr .readSpData
  | 12 => .instr .shutdown
  | n => .rejected (.unusedOperationId n)

/-- The decoder: a word in a receive state. -/
def decode (c : Config) (st : DecState) : InputWord → Decoded
  | .byte b => .instr (decodeByte st b)
  | .request r => decodeRequest c r

/-- The byte of the channel command with group number `k`: `0x80 + k` (R54, R62). -/
def channelByte (k : BitVec 7) : Byte := Config.minChannelByte ||| k.setWidth 8

/-- The request for FEED (R63): the operation that takes the bytes of the byte source (R131). -/
def feedRequest : OpRequest := ⟨1#4, 0, false⟩

/-- A request with no operand. -/
def bareRequest (id : BitVec 4) : InputWord := .request ⟨id, 0, false⟩

/-- The word of an instruction (R51, R58, R63). -/
def encode : Instr → InputWord
  | .pad => .byte Config.padByte
  | .start => .byte Config.startByte
  | .initSkip b => .byte b
  | .cmdCh0 => .byte Config.minChannelByte
  | .cmdCh k => .byte (channelByte k)
  | .cmdSpecial => .byte Config.specialByte
  | .cmdUnk b => .byte b
  | .dataEsc => .byte Config.escapeByte
  | .dataLit v => .byte v
  | .escVal x => .byte x
  | .spOpcode op => .byte op
  | .spEsc => .byte Config.escapeByte
  | .spData d => .byte d
  | .spEscVal x => .byte x
  | .doneSkip b => .byte b
  | .init n => .request ⟨0#4, n, false⟩
  | .feed => bareRequest 1#4
  | .read i pump => .request ⟨2#4, i, pump⟩
  | .setOffset o => .request ⟨3#4, o, false⟩
  | .getOffset => bareRequest 4#4
  | .getCount => bareRequest 5#4
  | .isIdle => bareRequest 6#4
  | .setTimeout ms => .request ⟨7#4, ms, false⟩
  | .getTimeout => bareRequest 8#4
  | .spAvail pump => .request ⟨9#4, 0, pump⟩
  | .readSpOpcode => bareRequest 10#4
  | .readSpData => bareRequest 11#4
  | .shutdown => bareRequest 12#4

/-- Whether a row of R58 stands for the receive state `st`: PAD and START for any; a host operation is asked for in
any. -/
def Instr.readIn (st : DecState) : Instr → Bool
  | .pad => true
  | .start => true
  | .initSkip _ => st == .init
  | .cmdCh0 => st == .command
  | .cmdCh _ => st == .command
  | .cmdSpecial => st == .command
  | .cmdUnk _ => st == .command
  | .dataEsc => st == .data
  | .dataLit _ => st == .data
  | .escVal _ => st == .escape
  | .spOpcode _ => st == .specialOpcode
  | .spEsc => st == .specialData
  | .spData _ => st == .specialData
  | .spEscVal _ => st == .specialEscape
  | .doneSkip _ => st == .complete
  | .init _ => true
  | .feed => true
  | .read _ _ => true
  | .setOffset _ => true
  | .getOffset => true
  | .getCount => true
  | .isIdle => true
  | .setTimeout _ => true
  | .getTimeout => true
  | .spAvail _ => true
  | .readSpOpcode => true
  | .readSpData => true
  | .shutdown => true

/-- A row of spec/opcode_table.json: its mnemonic and its pattern, of eight bits for a wire row, of the four bits of the
operation id for a host operation. -/
inductive TableRow where
  | wire (mnemonic : String) (value mask : Byte)
  | host (mnemonic : String) (value mask : BitVec 4)
deriving DecidableEq, Repr

/-- The row of an instruction, as the table gives it. -/
def Instr.tableRow : Instr → TableRow
  | .pad => .wire "PAD" 0x7D#8 0xFF#8
  | .start => .wire "START" 0x7E#8 0xFF#8
  | .initSkip _ => .wire "INIT.SKIP" 0x0#8 0x0#8
  | .cmdCh0 => .wire "CMD.CH0" 0x80#8 0xFF#8
  | .cmdCh _ => .wire "CMD.CH" 0x80#8 0x80#8
  | .cmdSpecial => .wire "CMD.SPECIAL" 0x7A#8 0xFF#8
  | .cmdUnk _ => .wire "CMD.UNK" 0x0#8 0x0#8
  | .dataEsc => .wire "DATA.ESC" 0x7F#8 0xFF#8
  | .dataLit _ => .wire "DATA.LIT" 0x0#8 0x0#8
  | .escVal _ => .wire "ESC.VAL" 0x0#8 0x0#8
  | .spOpcode _ => .wire "SP.OPCODE" 0x0#8 0x0#8
  | .spEsc => .wire "SP.ESC" 0x7F#8 0xFF#8
  | .spData _ => .wire "SP.DATA" 0x0#8 0x0#8
  | .spEscVal _ => .wire "SP.ESCVAL" 0x0#8 0x0#8
  | .doneSkip _ => .wire "DONE.SKIP" 0x0#8 0x0#8
  | .init _ => .host "INIT" 0x0#4 0xF#4
  | .feed => .host "FEED" 0x1#4 0xF#4
  | .read _ _ => .host "READ" 0x2#4 0xF#4
  | .setOffset _ => .host "SET_OFFSET" 0x3#4 0xF#4
  | .getOffset => .host "GET_OFFSET" 0x4#4 0xF#4
  | .getCount => .host "GET_COUNT" 0x5#4 0xF#4
  | .isIdle => .host "IS_IDLE" 0x6#4 0xF#4
  | .setTimeout _ => .host "SET_TIMEOUT" 0x7#4 0xF#4
  | .getTimeout => .host "GET_TIMEOUT" 0x8#4 0xF#4
  | .spAvail _ => .host "SP_AVAIL" 0x9#4 0xF#4
  | .readSpOpcode => .host "SP_OPCODE" 0xA#4 0xF#4
  | .readSpData => .host "SP_DATA" 0xB#4 0xF#4
  | .shutdown => .host "SHUTDOWN" 0xC#4 0xF#4

/-- Whether a word matches a row's pattern. -/
def TableRow.admits : TableRow → InputWord → Bool
  | .wire _ value mask, .byte b => b &&& mask == value
  | .host _ value mask, .request r => r.id &&& mask == value
  | .wire _ _ _, .request _ => false
  | .host _ _ _, .byte _ => false

/-! The opcode table's words. The table gives a wire row its byte but not the receive state it is read in, and several
rows share the pattern 0x00/0x00; so a word is read in ONE context, chosen by `tableState` and `tableWord` (DESIGN
CHOICE, log 15: for the host's questions about the table only, nothing in `step` rests on it). -/

/-- The word of the table's numbering: more than 8 bits or a number below 16 is a host operation with operand zero,
any other number is a byte of the wire. -/
def tableWord (nbits w : Nat) : InputWord :=
  if 8 < nbits ∨ w < 16 then bareRequest (BitVec.ofNat 4 w) else .byte (BitVec.ofNat 8 w)

/-- The receive state such a byte is read in: `Command` for the bytes from 0x40 on but 0x7F, `Data` for 0x7F and the
bytes below 0x40, so that the rows of both states have words. -/
def tableState (w : Nat) : DecState :=
  let b := BitVec.ofNat 8 w
  if 0x40#8 ≤ b ∧ b ≠ Config.escapeByte then .command else .data

/-- What the decoder reads from a word of the opcode table. -/
def decodeTableWord (nbits w : Nat) : Option Instr :=
  match decode Config.build (tableState w) (tableWord nbits w) with
  | .instr i => some i
  | .rejected _ => none

end Sys2Proof
end

