-- ==== Sys2Proof/Machine/State.lean ====
section
/-!
DEFINITION. The state of one block instance: the eleven registers and the register file of R10, the parameters of R6,
the inputs from the environment (R131, R132), and the outputs of a step.
-/

namespace Sys2Proof.Machine

/-- The intensity register file as memory: (local index, byte) pairs, indices strictly rising, no entry equal to 0,
which is what an unlisted index reads as (R15: the reset value of every entry is 0; R40; log 17). -/
abbrev Memory := List Host.Cell

/-- A byte in the byte source and the time source's value when the block takes it (R87, R131, R132; log 8). -/
structure RxByte where
  byte : Byte
  now  : Nat
deriving DecidableEq, Repr

/-- What the environment and the host do next; R41 puts the operations of an instance in one total order. The block takes
bytes only inside a feed (R131), so a byte is never an event of its own. -/
inductive Event where
  /-- The environment appends bytes to the byte source (R131). -/
  | arrive (bytes : List RxByte)
  /-- The host asks for an operation, performed at time `now` (R130, R132). -/
  | hostOp (now : Nat) (request : OpRequest)
deriving DecidableEq, Repr

/-- The result of a host operation (the result column of R130). -/
inductive Result where
  /-- no result -/
  | none
  /-- `consumed`, idle or pending -/
  | bit (b : Bool)
  /-- a channel value, the opcode or the data byte -/
  | byte (v : Byte)
  /-- `offset` or `CAPACITY` -/
  | address (a : Nat)
  /-- `timeout` -/
  | time (t : Nat)
deriving DecidableEq, Repr

/-- One block instance. The first twelve fields after `cfg` are R10's table, in its order; addresses and times are
integers whose widths the invariant of Safety.lean states (log 13). -/
structure State where
  /-- The parameters of R6; no step changes them (log 1). -/
  cfg          : Config
  /-- `state`, R11 -/
  state        : DecState
  /-- `cursor`, R12 -/
  cursor       : Nat
  /-- `offset`, R13 -/
  offset       : Nat
  /-- `CAPACITY`, R14 -/
  capacity     : Nat
  /-- `buf`, R15 -/
  buf          : Memory
  /-- `sp_opcode_hold`, R16 -/
  spOpcodeHold : Byte
  /-- `sp_opcode`, R17 -/
  spOpcode     : Byte
  /-- `sp_data`, R17 -/
  spData       : Byte
  /-- `sp_pending`, R18 -/
  spPending    : Bool
  /-- `last_activity`, R19 -/
  lastActivity : Nat
  /-- `timeout`, R20 -/
  timeout      : Nat
  /-- `idle_flag`, R21 -/
  idleFlag     : Bool
  /-- Has an INIT been performed? Before it no operation has a meaning (R171; log 7). -/
  initialised  : Bool
  /-- Does the byte source deliver? Not between SHUTDOWN and the next INIT (R143; log 12). -/
  linkOpen     : Bool
  /-- The byte source's queue, oldest first (R131; log 9). -/
  rx           : List RxByte
  /-- The time source's count of milliseconds, not yet reduced modulo `2^TIME_WIDTH` (R132; log 8). -/
  now          : Nat
  /-- What happens next, oldest first (R41; log 9, log 16). -/
  agenda       : List Event
  /-- Output of the latest `Step`: it completed a special command (R22; log 11). -/
  stop         : Bool
  /-- Output of the latest host operation (R130; log 11). -/
  result       : Result
  /-- The model's own counter: how many unspecified bytes have been drawn (log 6). -/
  freeCount    : Nat
deriving DecidableEq, Repr

/-- No rule raises anything: "A model therefore has no fault outcome for this block" (R150). Nothing raises a fault,
so there is no constructor; this is exact. -/
inductive Fault where
deriving DecidableEq, Repr

/-- Why the model gives an event no meaning. -/
inductive Refusal where
  /-- Raised by an arm of `exec` whose instruction has no meaning yet; safe. No arm raises it in this model. -/
  | notModelled (mnemonic : String)
  /-- Raised by every instruction but INIT before the first INIT: "a model gives no meaning to any operation that
  precedes the first `INIT` (it refuses)" (R171); safe. -/
  | notInitialised
  /-- Raised by `step` for a host request with an id of 13 to 15: "a model refuses them" (R63); safe. -/
  | unusedOperationId (id : Nat)
  /-- Raised by `step` for a host request whose operand has more bits than R130 gives it (log 13); safe. -/
  | operandTooWide
deriving DecidableEq, Repr

/-- The block after `initialize(capacity_req)` with parameters `c` (R24, R170), no byte waiting and nothing on the
agenda. The unspecified bytes are the first three free values. -/
def State.resetWith (c : Config) (capacityReq : Nat) : State where
  cfg          := c
  state        := .init
  cursor       := 0
  offset       := 0
  capacity     := min capacityReq c.capMax
  buf          := []
  spOpcodeHold := Config.freeByte 0
  spOpcode     := Config.freeByte 1
  spData       := Config.freeByte 2
  spPending    := false
  lastActivity := c.rstLastActivity
  timeout      := c.rstTimeout
  idleFlag     := c.rstIdleFlag
  initialised  := true
  linkOpen     := true
  rx           := []
  now          := 0
  agenda       := []
  stop         := false
  result       := .none
  freeCount    := 3

/-- The machine right after reset: a reset input performs R170 with a build-time `capacity_req` (R171). -/
def State.reset : State := State.resetWith Config.build Config.buildCapacityReq

end Sys2Proof.Machine
end

