-- ==== Sys2Proof/Machine/Ops.lean ====
section
/-!
DEFINITION. The named operations over memory and registers that the meanings share: the register file's read, write and
zeroing, one update per register, abandoning a frame, and the gate before the first INIT.
-/

namespace Sys2Proof.Machine

/-! ## The register file -/

/-- The byte at a local index; an unlisted index reads 0 (R15, R40). -/
def Memory.read : Memory → Nat → Byte
  | [], _ => 0#8
  | (a, v) :: m, i => if a = i then v else Memory.read m i

/-- List a byte at an index, keeping the indices strictly rising. -/
def Memory.insert (i : Nat) (v : Byte) : Memory → Memory
  | [] => [(i, v)]
  | (a, w) :: m =>
    if i < a then (i, v) :: (a, w) :: m
    else if a = i then (i, v) :: m
    else (a, w) :: Memory.insert i v m

/-- Take an index off the list. -/
def Memory.erase (i : Nat) : Memory → Memory
  | [] => []
  | (a, w) :: m => if a = i then m else (a, w) :: Memory.erase i m

/-- `buf[i] <- v`; writing 0, what an unlisted index reads as, removes the entry. -/
def Memory.write (i : Nat) (v : Byte) (m : Memory) : Memory :=
  if v = 0#8 then Memory.erase i m else Memory.insert i v m

/-- The canonical form: indices strictly rising, no entry equal to 0. -/
def Memory.wf : Memory → Bool
  | [] => true
  | (a, v) :: m => v != 0#8 && m.all (fun c => decide (a < c.1)) && Memory.wf m

/-! ## Register updates -/

/-- `state <- st` (R7: it takes the place of a write of the program counter). -/
def State.setState (s : State) (st : DecState) : State := { s with state := st }

/-- The step's output `stop` (R22). -/
def State.setStop (s : State) (b : Bool) : State := { s with stop := b }

/-- The result a host operation returns (R130). -/
def State.setResult (s : State) (r : Result) : State := { s with result := r }

/-- `cursor <- a`. -/
def State.setCursor (s : State) (a : Nat) : State := { s with cursor := a }

/-- `offset <- a`. -/
def State.writeOffset (s : State) (a : Nat) : State := { s with offset := a }

/-- `buf[i] <- v`, one byte (R31). -/
def State.storeEntry (s : State) (i : Nat) (v : Byte) : State := { s with buf := s.buf.write i v }

/-- `for i in 0 .. CAPACITY-1: buf[i] <- 0` (R100, R101). -/
def State.zeroBuffer (s : State) : State := { s with buf := [] }

/-- `sp_opcode_hold <- op` (R81). -/
def State.setHold (s : State) (op : Byte) : State := { s with spOpcodeHold := op }

/-- `SpecialSet(opcode, data)` (R120): "overwrite record, set pending", all three together. -/
def State.specialSet (s : State) (opcode data : Byte) : State :=
  { s with spOpcode := opcode, spData := data, spPending := true }

/-- `sp_pending <- 0` (R123). -/
def State.clearPending (s : State) : State := { s with spPending := false }

/-- `timeout <- ms` (R112). -/
def State.writeTimeout (s : State) (ms : Nat) : State := { s with timeout := ms }

/-- The byte source delivers, or does not (R143). -/
def State.setLink (s : State) (isOpen : Bool) : State := { s with linkOpen := isOpen }

/-- The byte source gives up its oldest byte `x`, leaving `rest`, and the time source is sampled for it (R87). -/
def State.takeByte (s : State) (x : RxByte) (rest : List RxByte) : State := { s with rx := rest, now := x.now }

/-- The environment appends bytes to the byte source (R131). -/
def State.appendRx (s : State) (bytes : List RxByte) : State := { s with rx := s.rx ++ bytes }

/-- The next event is taken off the agenda; the outputs of the one before it are gone (R155: `stop` "exists only for
the step that raises it"; log 11). -/
def State.nextEvent (s : State) (rest : List Event) : State :=
  { s with agenda := rest, stop := false, result := .none }

/-- The time source shows `t` (R132). -/
def State.setNow (s : State) (t : Nat) : State := { s with now := t }

/-! ## Reading registers -/

/-- `read(local_index)` (R102): "returns stored value or 0 if index ≥ capacity". -/
def State.readEntry (s : State) (i : Nat) : Byte :=
  if i < s.capacity then s.buf.read i else 0#8

/-- The input `now`: the millisecond count modulo `2^TIME_WIDTH` (R132). -/
def State.sampleNow (s : State) : Nat := s.now % s.cfg.timeModulus

/-- `RecordActivity(now)` (R110): `last_activity <- now`, `idle_flag <- 0`. -/
def State.recordActivity (s : State) : State := { s with lastActivity := s.sampleNow, idleFlag := false }

/-! ## Abandoning a frame, starting the block -/

/-- Abandoning a frame, the place of taking an exception: it "changes `state` to `Init` or `Complete` and nothing
else" (R158). -/
def State.abortFrame (s : State) (target : DecState) : State := s.setState target

/-- START's restart of the frame, the place of returning from one: "a new START byte at any time unconditionally resets
the decoder to start a fresh frame" (R72, R159). -/
def State.restartFrame (s : State) : State := s.setState .command

/-- Reset, the operation `initialize(capacity_req)`, all at once (R170). The unspecified bytes are the next three free
values (log 5); the byte source, the time and the agenda are the environment's and stay (log 12). -/
def State.initialise (s : State) (capacityReq : Nat) : State :=
  { State.resetWith s.cfg capacityReq with
    spOpcodeHold := Config.freeByte s.freeCount
    spOpcode := Config.freeByte (s.freeCount + 1)
    spData := Config.freeByte (s.freeCount + 2)
    freeCount := s.freeCount + 3
    rx := s.rx
    now := s.now
    agenda := s.agenda }

/-- The next state `t` of an instruction run in `s`, refused before the first INIT (R171, U1). -/
def afterInit (s t : State) : Host.Outcome State Fault Refusal :=
  if s.initialised then .next t else .refused .notInitialised

end Sys2Proof.Machine
end

