-- ==== Sys2Proof/Machine/Operands.lean ====
section
/-!
DEFINITION. How operands are assembled from bytes and registers: the escaped value (R55), the start address and its range
test (R54), the window (R32), and the address-write step that uses it (R86).
-/

namespace Sys2Proof.Machine

/-- The value an escaped byte stands for, `(x + 0x4E) mod 256` (R55). -/
def escapedValue (x : Byte) : Byte := x + Config.escapeAddend

/-- The start address of group `k`, `k * 8`, on integers (R54). -/
def startAddress (k : BitVec 7) : Nat := k.toNat * 8

/-- The range test of a channel command: on `k`, `k <= (MAX_ADDRESS >> 3)` (R54, C1). -/
def groupAccepted (c : Config) (k : BitVec 7) : Bool := decide (k.toNat ≤ c.maxAddress >>> 3)

/-- Where a global channel address lies relative to the window (R32, R33). -/
inductive WindowPlace where
  /-- `a < offset` -/
  | below
  /-- `a >= offset` and `a - offset < CAPACITY`; the local index is `a - offset` -/
  | inside (index : Nat)
  /-- `a >= offset` and `a - offset >= CAPACITY` -/
  | above
deriving DecidableEq, Repr

/-- The channel address decoder: the window test in two parts, so that no sum is formed (R32). -/
def windowPlace (offset capacity a : Nat) : WindowPlace :=
  if a < offset then .below
  else if a - offset < capacity then .inside (a - offset)
  else .above

/-- Where the cursor points. -/
def State.cursorPlace (s : State) : WindowPlace := windowPlace s.offset s.capacity s.cursor

/-- The advance of R86: at `MAX_ADDRESS` the frame is complete, else the cursor moves on by one. -/
def State.advanceCursor (s : State) : State :=
  if s.cursor = s.cfg.maxAddress then s.abortFrame .complete
  else (s.setCursor (s.cursor + 1)).setState .data

/-- `AddressWrite(v, now)` (R86): below the window nothing is stored; in the window the byte is stored and activity is
recorded; above it the frame is abandoned and the advance is not performed. -/
def State.addressWrite (s : State) (v : Byte) : State :=
  match s.cursorPlace with
  | .below => s.advanceCursor
  | .inside i => ((s.storeEntry i v).recordActivity).advanceCursor
  | .above => s.abortFrame .complete

end Sys2Proof.Machine
end

