-- ==== Sys2Proof/Machine/Flags.lean ====
section
/-!
DEFINITION. The flags: the idle comparison and its latch (R111), and the completion of a special command, which sets
`sp_pending` and raises `stop` (R83, R84, R155). No arithmetic result sets any flag (R22).
-/

namespace Sys2Proof.Machine

/-- `(a - b) mod m`, for unsigned values below `m` (R111). -/
def subMod (m a b : Nat) : Nat := (a + (m - b % m)) % m

/-- `elapsed = (now - last_activity) mod 2^TIME_WIDTH` (R111). -/
def State.elapsed (s : State) : Nat := subMod s.cfg.timeModulus s.sampleNow s.lastActivity

/-- What `is-idle` answers: the sticky flag, else `elapsed >= timeout` (R111). -/
def State.idleAnswer (s : State) : Bool := s.idleFlag || decide (s.timeout ≤ s.elapsed)

/-- The latch of `is-idle`: the flag is set when the comparison is true, "never cleared here" (R111). -/
def State.latchIdle (s : State) : State := { s with idleFlag := s.idleAnswer }

/-- A special command completes with data byte `d` (R83, R84, R156): the mailbox is written from the holding register,
`state <- Init`, `stop = 1`. -/
def State.completeSpecial (s : State) (d : Byte) : State :=
  ((s.specialSet s.spOpcodeHold d).setState .init).setStop true

end Sys2Proof.Machine
end

