-- ==== Sys2Proof/Machine/CommandBytes.lean ====
section
/-!
DEFINITION. The command byte of a frame: rows R74, R75, R76, R77.
-/

namespace Sys2Proof.Machine

/-- CMD.CH0: "address cursor = 0 → Data" (R74). -/
def cmdCh0Effect (s : State) : State := ((s.setCursor 0).setState .data).setStop false

def execCmdCh0 (s : State) : Host.Outcome State Fault Refusal := afterInit s (cmdCh0Effect s)

/-- CMD.CH: `if k > (MAX_ADDRESS >> 3) then state <- Init else cursor <- k * 8; state <- Data` (R75). -/
def cmdChEffect (k : BitVec 7) (s : State) : State :=
  if groupAccepted s.cfg k then ((s.setCursor (startAddress k)).setState .data).setStop false
  else (s.abortFrame .init).setStop false

def execCmdCh (k : BitVec 7) (s : State) : Host.Outcome State Fault Refusal := afterInit s (cmdChEffect k s)

/-- CMD.SPECIAL: `state <- SpecialOpcode` (R76). -/
def cmdSpecialEffect (s : State) : State := (s.setState .specialOpcode).setStop false

def execCmdSpecial (s : State) : Host.Outcome State Fault Refusal := afterInit s (cmdSpecialEffect s)

/-- CMD.UNK: "→ Complete (unrecognized command; ignore rest of frame)" (R77, R151). -/
def cmdUnkEffect (_b : Byte) (s : State) : State := (s.abortFrame .complete).setStop false

def execCmdUnk (b : Byte) (s : State) : Host.Outcome State Fault Refusal := afterInit s (cmdUnkEffect b s)

end Sys2Proof.Machine
end

