-- ==== Sys2Proof/Machine/DataBytes.lean ====
section
/-!
DEFINITION. Channel data: rows R78, R79, R80.
-/

namespace Sys2Proof.Machine

/-- DATA.ESC: `state <- Escape`; the prefix is not a data item (R78). -/
def dataEscEffect (s : State) : State := (s.setState .escape).setStop false

def execDataEsc (s : State) : Host.Outcome State Fault Refusal := afterInit s (dataEscEffect s)

/-- DATA.LIT: `AddressWrite(b, now)` (R79). -/
def dataLitEffect (v : Byte) (s : State) : State := (s.addressWrite v).setStop false

def execDataLit (v : Byte) (s : State) : Host.Outcome State Fault Refusal := afterInit s (dataLitEffect v s)

/-- ESC.VAL: `state <- Data; AddressWrite(trunc_8(b + 0x4E), now)` (R80). -/
def escValEffect (x : Byte) (s : State) : State := ((s.setState .data).addressWrite (escapedValue x)).setStop false

def execEscVal (x : Byte) (s : State) : Host.Outcome State Fault Refusal := afterInit s (escValEffect x s)

end Sys2Proof.Machine
end

