-- ==== Sys2Proof/Machine/FrameBytes.lean ====
section
/-!
DEFINITION. PAD, START, and the bytes ignored outside a frame: rows R71, R72, R73, R85. An effect is the row's pseudocode
on the state; `exec…` refuses it before the first INIT.
-/

namespace Sys2Proof.Machine

/-- PAD: "byte discarded, no state change" (R71). -/
def padEffect (s : State) : State := s.setStop false

def execPad (s : State) : Host.Outcome State Fault Refusal := afterInit s (padEffect s)

/-- START: "→ Command (frame restart, overrides current state)"; nothing else is written (R72). -/
def startEffect (s : State) : State := s.restartFrame.setStop false

def execStart (s : State) : Host.Outcome State Fault Refusal := afterInit s (startEffect s)

/-- INIT.SKIP: "stay Init (waiting for frame start)" (R73); the byte plays no part. -/
def initSkipEffect (_b : Byte) (s : State) : State := s.setStop false

def execInitSkip (b : Byte) (s : State) : Host.Outcome State Fault Refusal := afterInit s (initSkipEffect b s)

/-- DONE.SKIP: "discarded; frame exhausted until next START" (R85); the byte plays no part. -/
def doneSkipEffect (_b : Byte) (s : State) : State := s.setStop false

def execDoneSkip (b : Byte) (s : State) : Host.Outcome State Fault Refusal := afterInit s (doneSkipEffect b s)

end Sys2Proof.Machine
end

