-- ==== Sys2Proof/Machine/SpecialBytes.lean ====
section
/-!
DEFINITION. The bytes of a special command: rows R81, R82, R83, R84.
-/

namespace Sys2Proof.Machine

/-- SP.OPCODE: "store as opcode → SpecialData", in the holding register (R81). -/
def spOpcodeEffect (op : Byte) (s : State) : State := ((s.setHold op).setState .specialData).setStop false

def execSpOpcode (op : Byte) (s : State) : Host.Outcome State Fault Refusal := afterInit s (spOpcodeEffect op s)

/-- SP.ESC: `state <- SpecialEscape` (R82). -/
def spEscEffect (s : State) : State := (s.setState .specialEscape).setStop false

def execSpEsc (s : State) : Host.Outcome State Fault Refusal := afterInit s (spEscEffect s)

/-- SP.DATA: `SpecialSet(sp_opcode_hold, b)`; `state <- Init`; `stop = 1` (R83). -/
def spDataEffect (d : Byte) (s : State) : State := s.completeSpecial d

def execSpData (d : Byte) (s : State) : Host.Outcome State Fault Refusal := afterInit s (spDataEffect d s)

/-- SP.ESCVAL: `SpecialSet(sp_opcode_hold, trunc_8(b + 0x4E))`; `state <- Init`; `stop = 1` (R84). -/
def spEscValEffect (x : Byte) (s : State) : State := s.completeSpecial (escapedValue x)

def execSpEscVal (x : Byte) (s : State) : Host.Outcome State Fault Refusal := afterInit s (spEscValEffect x s)

end Sys2Proof.Machine
end

