-- ==== Sys2Proof/Machine/Feed.lean ====
section
/-!
DEFINITION. `Step(b, now)` (R70) and the byte-consumption loop (R87) that FEED and the pumps run.
-/

namespace Sys2Proof.Machine

/-- The effect of the row a byte selects. A host operation is selected by no byte (`decodeByte` answers none), so those
arms are never reached. -/
def wireEffect (i : Instr) (s : State) : State :=
  match i with
  | .pad => padEffect s
  | .start => startEffect s
  | .initSkip b => initSkipEffect b s
  | .cmdCh0 => cmdCh0Effect s
  | .cmdCh k => cmdChEffect k s
  | .cmdSpecial => cmdSpecialEffect s
  | .cmdUnk b => cmdUnkEffect b s
  | .dataEsc => dataEscEffect s
  | .dataLit v => dataLitEffect v s
  | .escVal x => escValEffect x s
  | .spOpcode op => spOpcodeEffect op s
  | .spEsc => spEscEffect s
  | .spData d => spDataEffect d s
  | .spEscVal x => spEscValEffect x s
  | .doneSkip b => doneSkipEffect b s
  | .init _ => s
  | .feed => s
  | .read _ _ => s
  | .setOffset _ => s
  | .getOffset => s
  | .getCount => s
  | .isIdle => s
  | .setTimeout _ => s
  | .getTimeout => s
  | .spAvail _ => s
  | .readSpOpcode => s
  | .readSpData => s
  | .shutdown => s

/-- `Step(b, now)` with the time source at `s.now` (R70); its output `stop` is in the state it leaves. -/
def stepByte (b : Byte) (s : State) : State := wireEffect (decodeByte s.state b) s

/-- The loop of R87 over the bytes available, oldest first; `consumed` says whether one has been taken. The bytes not
taken stay in the byte source. -/
def feedLoop : List RxByte → Bool → State → State × Bool
  | [], consumed, s => (s, consumed)
  | x :: rest, _, s =>
    let t := stepByte x.byte (s.takeByte x rest)
    if t.stop then (t, true) else feedLoop rest true t

/-- `feed-available-bytes()` (R87): the state it leaves and `consumed`. A closed byte source has no byte available
(R143). -/
def feedAvailable (s : State) : State × Bool :=
  if s.linkOpen then feedLoop s.rx false s else (s, false)

/-- The optional implicit feed of READ and SP_AVAIL, its result discarded (R135, R140). -/
def pumpIf (pump : Bool) (s : State) : State :=
  if pump then (feedAvailable s).1 else s

end Sys2Proof.Machine
end

