-- ==== Sys2Proof/Machine/ChannelBuffer.lean ====
section
/-!
DEFINITION. READ, SET_OFFSET, GET_OFFSET, GET_COUNT: R135, R101, R103, R104.
-/

namespace Sys2Proof.Machine

/-- READ after its optional feed: the value at the local index, no state written (R102). -/
def readEffect (localIndex : Nat) (s : State) : State := s.setResult (.byte (s.readEntry localIndex))

/-- READ: `if pump == 1 then feed-available-bytes()`; `return read(local_index)` (R135). -/
def execRead (localIndex : Nat) (pump : Bool) (s : State) : Host.Outcome State Fault Refusal :=
  afterInit s (readEffect localIndex (pumpIf pump s))

/-- `if state == Data or state == Escape then state <- Init` (R101). -/
def leaveFrame (s : State) : State :=
  match s.state with
  | .data => s.abortFrame .init
  | .escape => s.abortFrame .init
  | .init => s
  | .command => s
  | .specialOpcode => s
  | .specialData => s
  | .specialEscape => s
  | .complete => s

/-- SET_OFFSET: "store new offset, zero entire buffer, and if the decoder is mid-frame (Data/Escape), force it to Init"
(R101). -/
def execSetOffset (newOffset : Nat) (s : State) : Host.Outcome State Fault Refusal :=
  afterInit s ((leaveFrame ((s.writeOffset newOffset).zeroBuffer)).setResult .none)

/-- GET_OFFSET: `return offset` (R103). -/
def execGetOffset (s : State) : Host.Outcome State Fault Refusal :=
  afterInit s (s.setResult (.address s.offset))

/-- GET_COUNT: `return CAPACITY` (R104). -/
def execGetCount (s : State) : Host.Outcome State Fault Refusal :=
  afterInit s (s.setResult (.address s.capacity))

end Sys2Proof.Machine
end

