-- ==== Sys2Proof/Machine/HostControl.lean ====
section
/-!
DEFINITION. INIT, FEED and SHUTDOWN: R133, R134, R143.
-/

namespace Sys2Proof.Machine

/-- INIT: "perform reset" with `capacity_req` (R133, R170); the one operation with a meaning before it (R171). -/
def execInit (capacityReq : Nat) (s : State) : Host.Outcome State Fault Refusal :=
  .next (s.initialise capacityReq)

/-- What FEED leaves: the loop of R87, its result `consumed` (R134). -/
def feedEffect (s : State) : State := (feedAvailable s).1.setResult (.bit (feedAvailable s).2)

def execFeed (s : State) : Host.Outcome State Fault Refusal := afterInit s (feedEffect s)

/-- SHUTDOWN: "writes no state of the block; after it the byte source delivers no further bytes until the next `INIT`"
(R143). -/
def execShutdown (s : State) : Host.Outcome State Fault Refusal :=
  afterInit s ((s.setLink false).setResult .none)

end Sys2Proof.Machine
end

