-- ==== Sys2Proof/Machine/IdleMonitor.lean ====
section
/-!
DEFINITION. IS_IDLE, SET_TIMEOUT, GET_TIMEOUT: R111, R112, R113.
-/

namespace Sys2Proof.Machine

/-- IS_IDLE: the sticky flag or the comparison, which it latches; it never feeds bytes (R111). -/
def execIsIdle (s : State) : Host.Outcome State Fault Refusal :=
  afterInit s (s.latchIdle.setResult (.bit s.idleAnswer))

/-- SET_TIMEOUT: `timeout <- ms` (R112). -/
def execSetTimeout (ms : Nat) (s : State) : Host.Outcome State Fault Refusal :=
  afterInit s ((s.writeTimeout ms).setResult .none)

/-- GET_TIMEOUT: `return timeout` (R113). -/
def execGetTimeout (s : State) : Host.Outcome State Fault Refusal :=
  afterInit s (s.setResult (.time s.timeout))

end Sys2Proof.Machine
end

