-- ==== Sys2Proof/Machine/Mailbox.lean ====
section
/-!
DEFINITION. SP_AVAIL, SP_OPCODE, SP_DATA: R140, R122, R123.
-/

namespace Sys2Proof.Machine

/-- SP_AVAIL after its optional feed: `return sp_pending`, "peek without consuming" (R121). -/
def availEffect (s : State) : State := s.setResult (.bit s.spPending)

/-- SP_AVAIL: `if pump == 1 then feed-available-bytes()`; `return is-pending()` (R140). -/
def execSpAvail (pump : Bool) (s : State) : Host.Outcome State Fault Refusal :=
  afterInit s (availEffect (pumpIf pump s))

/-- SP_OPCODE: "read opcode without affecting pending flag" (R122). -/
def execReadSpOpcode (s : State) : Host.Outcome State Fault Refusal :=
  afterInit s (s.setResult (.byte s.spOpcode))

/-- SP_DATA: "read data AND clear pending flag (this is the consuming read)" (R123). -/
def execReadSpData (s : State) : Host.Outcome State Fault Refusal :=
  afterInit s (s.clearPending.setResult (.byte s.spData))

end Sys2Proof.Machine
end

