-- ==== Sys2Proof/Machine/Dispatch.lean ====
section
/-!
DEFINITION. What an instruction does: one arm per row of the opcode table.
-/

namespace Sys2Proof.Machine

def exec (i : Instr) (s : State) : Host.Outcome State Fault Refusal :=
  match i with
  | .pad => Sys2Proof.Machine.execPad s
  | .start => Sys2Proof.Machine.execStart s
  | .initSkip b => Sys2Proof.Machine.execInitSkip b s
  | .cmdCh0 => Sys2Proof.Machine.execCmdCh0 s
  | .cmdCh k => Sys2Proof.Machine.execCmdCh k s
  | .cmdSpecial => Sys2Proof.Machine.execCmdSpecial s
  | .cmdUnk b => Sys2Proof.Machine.execCmdUnk b s
  | .dataEsc => Sys2Proof.Machine.execDataEsc s
  | .dataLit v => Sys2Proof.Machine.execDataLit v s
  | .escVal x => Sys2Proof.Machine.execEscVal x s
  | .spOpcode op => Sys2Proof.Machine.execSpOpcode op s
  | .spEsc => Sys2Proof.Machine.execSpEsc s
  | .spData d => Sys2Proof.Machine.execSpData d s
  | .spEscVal x => Sys2Proof.Machine.execSpEscVal x s
  | .doneSkip b => Sys2Proof.Machine.execDoneSkip b s
  | .init n => Sys2Proof.Machine.execInit n s
  | .feed => Sys2Proof.Machine.execFeed s
  | .read a p => Sys2Proof.Machine.execRead a p s
  | .setOffset o => Sys2Proof.Machine.execSetOffset o s
  | .getOffset => Sys2Proof.Machine.execGetOffset s
  | .getCount => Sys2Proof.Machine.execGetCount s
  | .isIdle => Sys2Proof.Machine.execIsIdle s
  | .setTimeout ms => Sys2Proof.Machine.execSetTimeout ms s
  | .getTimeout => Sys2Proof.Machine.execGetTimeout s
  | .spAvail p => Sys2Proof.Machine.execSpAvail p s
  | .readSpOpcode => Sys2Proof.Machine.execReadSpOpcode s
  | .readSpData => Sys2Proof.Machine.execReadSpData s
  | .shutdown => Sys2Proof.Machine.execShutdown s

end Sys2Proof.Machine
end

