-- ==== Sys2Proof/Machine/Fetch.lean ====
section
/-!
DEFINITION. Where the next instruction comes from: taking an event off the agenda, running what the decoder reads from it,
and placing a word of the opcode table so that it is the next one fetched.
-/

namespace Sys2Proof.Machine

/-- With nothing on the agenda the block holds its state: "it acts only when driven" (R130, R146, R165). -/
def holdState (s : State) : Host.Outcome State Fault Refusal := .next s

/-- Bytes arrive: the environment appends them to the byte source (R131). -/
def runArrive (bytes : List RxByte) (rest : List Event) (s : State) : Host.Outcome State Fault Refusal :=
  .next ((s.nextEvent rest).appendRx bytes)

/-- The state in which an event performed at time `t` runs. -/
def State.present (s : State) (t : Nat) (rest : List Event) : State := (s.nextEvent rest).setNow t

/-- The refusal of what the decoder rejects. -/
def refusalOf : DecodeError → Refusal
  | .unusedOperationId id => .unusedOperationId id
  | .operandTooWide => .operandTooWide

/-- A host operation is asked for at time `t` (R130). -/
def runRequest (t : Nat) (r : OpRequest) (rest : List Event) (s : State) : Host.Outcome State Fault Refusal :=
  match decodeRequest s.cfg r with
  | .instr i => exec i (s.present t rest)
  | .rejected e => .refused (refusalOf e)

/-- `s` with a byte about to be fetched: it is the one byte in an open byte source, the next event is a FEED at the time
the time source shows, and the receive state is `st`. -/
def placeByte (s : State) (st : DecState) (b : Byte) : State :=
  { s with
    rx := [⟨b, s.now⟩]
    linkOpen := true
    agenda := .hostOp s.now feedRequest :: s.agenda
    state := st }

/-- `s` with a host operation about to be performed, at the time the time source shows. -/
def placeRequest (s : State) (r : OpRequest) : State := { s with agenda := .hostOp s.now r :: s.agenda }

/-- `s` with a word of the opcode table as the next instruction; a byte in the receive state in which the table's reading
of it is made (log 15). -/
def placeTableWord (s : State) (nbits w : Nat) : State :=
  match tableWord nbits w with
  | .byte b => placeByte s (tableState w) b
  | .request r => placeRequest s r

end Sys2Proof.Machine
end

