-- ==== Sys2Proof/Machine/Step.lean ====
section
/-!
DEFINITION. One step of the machine: the next event of the total order of R41, or nothing.
-/

namespace Sys2Proof.Machine

/-- One atomic transition (R37): the oldest event on the agenda is performed. -/
def step (s : State) : Host.Outcome State Fault Refusal :=
  match s.agenda with
  | [] => holdState s
  | .arrive bytes :: rest => runArrive bytes rest s
  | .hostOp t r :: rest => runRequest t r rest s

/-- `s` with the word `w` of the opcode table where `step` takes its next instruction from (log 15, log 16). -/
def State.withFetchWord (s : State) (nbits w : Nat) : State := placeTableWord s nbits w

end Sys2Proof.Machine
end

