-- ==== Sys2Proof/Safety.lean ====
section
/-!
DEFINITION. The terms claims use: the invariant of the registers' widths and of the register file's form, what "the same
block" means, and the steps of a list of bytes.
-/

namespace Sys2Proof.Machine

/-- Every register within the width R10 gives it, the register file in canonical form and within its capacity, the
parameters within the ranges of R6. -/
structure State.Inv (s : State) : Prop where
  cfg          : s.cfg.wf = true
  cursor       : s.cursor ≤ s.cfg.maxAddress
  offset       : s.offset ≤ s.cfg.maxAddress
  capacity     : s.capacity ≤ s.cfg.capMax
  bufForm      : Memory.wf s.buf = true
  bufRange     : ∀ c ∈ s.buf, c.1 < s.capacity
  lastActivity : s.lastActivity < s.cfg.timeModulus
  timeout      : s.timeout < s.cfg.timeModulus

/-- The parameters, the registers and the register file agree: all of R10's table. -/
structure SameBlock (s t : State) : Prop where
  cfg          : t.cfg = s.cfg
  state        : t.state = s.state
  cursor       : t.cursor = s.cursor
  offset       : t.offset = s.offset
  capacity     : t.capacity = s.capacity
  buf          : t.buf = s.buf
  spOpcodeHold : t.spOpcodeHold = s.spOpcodeHold
  spOpcode     : t.spOpcode = s.spOpcode
  spData       : t.spData = s.spData
  spPending    : t.spPending = s.spPending
  lastActivity : t.lastActivity = s.lastActivity
  timeout      : t.timeout = s.timeout
  idleFlag     : t.idleFlag = s.idleFlag

/-- The rows a byte of the wire selects (R58), as against the host operations (R63). -/
def isWire : Instr → Bool
  | .pad => true
  | .start => true
  | .initSkip _ => true
  | .cmdCh0 => true
  | .cmdCh _ => true
  | .cmdSpecial => true
  | .cmdUnk _ => true
  | .dataEsc => true
  | .dataLit _ => true
  | .escVal _ => true
  | .spOpcode _ => true
  | .spEsc => true
  | .spData _ => true
  | .spEscVal _ => true
  | .doneSkip _ => true
  | .init _ => false
  | .feed => false
  | .read _ _ => false
  | .setOffset _ => false
  | .getOffset => false
  | .getCount => false
  | .isIdle => false
  | .setTimeout _ => false
  | .getTimeout => false
  | .spAvail _ => false
  | .readSpOpcode => false
  | .readSpData => false
  | .shutdown => false

/-- The host operations that take bytes: FEED, and READ and SP_AVAIL with the pump (R38, R131). -/
def feeds : Instr → Bool
  | .pad => false
  | .start => false
  | .initSkip _ => false
  | .cmdCh0 => false
  | .cmdCh _ => false
  | .cmdSpecial => false
  | .cmdUnk _ => false
  | .dataEsc => false
  | .dataLit _ => false
  | .escVal _ => false
  | .spOpcode _ => false
  | .spEsc => false
  | .spData _ => false
  | .spEscVal _ => false
  | .doneSkip _ => false
  | .init _ => false
  | .feed => true
  | .read _ pump => pump
  | .setOffset _ => false
  | .getOffset => false
  | .getCount => false
  | .isIdle => false
  | .setTimeout _ => false
  | .getTimeout => false
  | .spAvail pump => pump
  | .readSpOpcode => false
  | .readSpData => false
  | .shutdown => false

/-- The byte source gives up `x` and the decoder steps on it. -/
def stepNext (s : State) (x : RxByte) : State := stepByte x.byte (s.takeByte x s.rx.tail)

/-- The decoder steps on a list of bytes, oldest first. -/
def stepAll (xs : List RxByte) (s : State) : State := xs.foldl stepNext s

/-- The states in which the address-write step may run next: the only ones that read `cursor` (R12). -/
def usesCursor (st : DecState) : Bool := st == .data || st == .escape

/-- The states in which a special command may complete next: the only ones that read `sp_opcode_hold` (R16). -/
def usesHold (st : DecState) : Bool := st == .specialData || st == .specialEscape

/-- Equal but for `cursor` and `sp_opcode_hold`, and equal in those too where the next byte can read them. -/
structure SameVisible (s t : State) : Prop where
  rest   : t = { s with cursor := t.cursor, spOpcodeHold := t.spOpcodeHold }
  cursor : usesCursor s.state = true → t.cursor = s.cursor
  hold   : usesHold s.state = true → t.spOpcodeHold = s.spOpcodeHold

/-- No frame is being received: `Init` or `Complete` (R52, R53). -/
def outsideFrame (st : DecState) : Bool := st == .init || st == .complete

/-- Equal, or equal but for which of `Init` and `Complete` the decoder is in. -/
structure SameButIdleState (s t : State) : Prop where
  rest  : t = { s with state := t.state }
  state : t.state = s.state ∨ (outsideFrame s.state = true ∧ outsideFrame t.state = true)

/-- Two outcomes agree: next states related by `R`, or the same refusal. -/
def outcomesAgree (R : State → State → Prop) :
    Host.Outcome State Fault Refusal → Host.Outcome State Fault Refusal → Prop
  | .next s, .next t => R s t
  | .refused a, .refused b => a = b
  | _, _ => False

/-- The bytes of a list that are not PAD. -/
def dropPads (xs : List RxByte) : List RxByte := xs.filter (fun x => x.byte != Config.padByte)

end Sys2Proof.Machine
end

