-- ==== Sys2Proof/Certificates/Slice0/Obligations.lean ====
section
/-!
DEFINITION. The statements for the provers. Each docstring names the rule of spec/ it formalises; where a clause rests on a
decision the spec marks as its own, or on a choice of this model, it says so.
-/

open Sys2Proof Sys2Proof.Machine

/-! ## Encoding -/

/-- R50 to R63: decoding the word of a well-formed instruction, in a receive state its row stands for, gives it back. -/
def Obligations.DecodeOfEncodeIsTheInstruction : Prop :=
  ∀ (c : Config) (st : DecState) (i : Instr), i.wf c = true → i.readIn st = true →
    decode c st (encode i) = .instr i

/-- R58, R63: what the decoder answers is well-formed and of a row that stands for the receive state; a byte is encoded
back to itself. -/
def Obligations.DecodedInstructionsAreWellFormed : Prop :=
  (∀ (c : Config) (st : DecState) (w : InputWord) (i : Instr), decode c st w = .instr i →
    i.wf c = true ∧ i.readIn st = true) ∧
  (∀ (st : DecState) (b : Byte), encode (decodeByte st b) = .byte b)

/-- R58: the table, row by row, with the byte values it lists. -/
def Obligations.DispatchTableSelectsTheRow : Prop :=
  ∀ b : Byte,
    (b = 0x7D#8 → ∀ st, decodeByte st b = .pad) ∧
    (b = 0x7E#8 → ∀ st, decodeByte st b = .start) ∧
    (b.toNat ≤ 0x7C ∨ 0x7F ≤ b.toNat →
      decodeByte .init b = .initSkip b ∧ decodeByte .escape b = .escVal b ∧
      decodeByte .specialOpcode b = .spOpcode b ∧ decodeByte .specialEscape b = .spEscVal b ∧
      decodeByte .complete b = .doneSkip b) ∧
    (b = 0x80#8 → decodeByte .command b = .cmdCh0) ∧
    (0x81 ≤ b.toNat → ∃ k : BitVec 7, decodeByte .command b = .cmdCh k ∧ k.toNat = b.toNat - 0x80) ∧
    (b = 0x7A#8 → decodeByte .command b = .cmdSpecial) ∧
    (b.toNat ≤ 0x79 ∨ b = 0x7B#8 ∨ b = 0x7C#8 ∨ b = 0x7F#8 → decodeByte .command b = .cmdUnk b) ∧
    (b = 0x7F#8 → decodeByte .data b = .dataEsc ∧ decodeByte .specialData b = .spEsc) ∧
    (b.toNat ≤ 0x7C ∨ 0x80 ≤ b.toNat →
      decodeByte .data b = .dataLit b ∧ decodeByte .specialData b = .spData b)

/-- R51, R63: a few words written out from the spec's tables. -/
def Obligations.WordsFromTheTablesDecode : Prop :=
  decodeByte .init 0x7E#8 = .start ∧ decodeByte .command 0x83#8 = .cmdCh 3#7 ∧
  decodeByte .command 0x7A#8 = .cmdSpecial ∧ decodeByte .data 0x80#8 = .dataLit 0x80#8 ∧
  decodeByte .specialOpcode 0x7F#8 = .spOpcode 0x7F#8 ∧ decodeByte .escape 0x7D#8 = .pad ∧
  decodeRequest Config.build ⟨0b0010#4, 5, true⟩ = .instr (.read 5 true) ∧
  decodeRequest Config.build ⟨0b1011#4, 0, false⟩ = .instr .readSpData

/-- R54: `ADDR_WIDTH = 8` accepts exactly the groups up to 31, `ADDR_WIDTH = 16` every group, and an accepted start
address leaves room for a whole group below `MAX_ADDRESS`. -/
def Obligations.AcceptedGroupsFitTheAddressRange : Prop :=
  ∀ (c : Config) (k : BitVec 7),
    (c.addrWidth = .w8 → (groupAccepted c k = true ↔ k.toNat ≤ 31)) ∧
    (c.addrWidth = .w16 → groupAccepted c k = true) ∧
    (groupAccepted c k = true → startAddress k = k.toNat * 8 ∧ startAddress k ≤ c.maxAddress - 7)

/-! ## The step -/

/-- R70, R87, R131, log 10: a byte is fetched by a FEED from the byte source. With one byte queued, a step that performs
FEED is exec of the row that the byte selects, with the byte off the queue, the event off the agenda, the byte's own time
shown, the outputs of the event before gone (log 11), and the result 1. -/
def Obligations.StepRunsTheDecodedByte : Prop :=
  ∀ (s : State) (x : RxByte) (t : Nat) (r : OpRequest) (rest : List Event),
    s.initialised = true → s.linkOpen = true → s.rx = [x] →
    s.agenda = .hostOp t r :: rest → decodeRequest s.cfg r = .instr .feed →
    ∃ u, exec (decodeByte s.state x.byte)
        { s with agenda := rest, rx := [], now := x.now, stop := false, result := .none } = .next u ∧
      step s = .next { u with result := .bit true }

/-- R130, log 14: a host request that decodes runs its operation, with the event off the agenda, the time source showing
the event's time (log 8) and the outputs of the event before gone (log 11). -/
def Obligations.StepRunsTheDecodedRequest : Prop :=
  ∀ (s : State) (t : Nat) (r : OpRequest) (rest : List Event) (i : Instr),
    s.agenda = .hostOp t r :: rest → decodeRequest s.cfg r = .instr i →
    step s = exec i { s with agenda := rest, now := t, stop := false, result := .none }

/-- R131, R146, log 9, log 16, log 20: bytes that arrive are appended to the byte source, and a block that nothing drives
holds its state. That an arrival clears the outputs `stop` and `result` is this model's choice, log 11. -/
def Obligations.ArrivalsAppendAndIdleHolds : Prop :=
  (∀ (s : State) (bytes : List RxByte) (rest : List Event), s.agenda = .arrive bytes :: rest →
    step s = .next { s with agenda := rest, rx := s.rx ++ bytes, stop := false, result := .none }) ∧
  (∀ s : State, s.agenda = [] → step s = .next s)

/-- R131, log 9: the block takes bytes only inside a feed, oldest first, and only while the byte source delivers (log 12);
the environment appends; nothing else touches the queue. -/
def Obligations.BytesAreTakenOnlyInsideAFeed : Prop :=
  ∀ s t : State, step s = .next t →
    (∃ (bytes : List RxByte) (rest : List Event), s.agenda = .arrive bytes :: rest ∧ t.rx = s.rx ++ bytes) ∨
    t.rx = s.rx ∨
    (s.linkOpen = true ∧ ∃ (now : Nat) (r : OpRequest) (rest : List Event) (i : Instr) (taken : List RxByte),
      s.agenda = .hostOp now r :: rest ∧ decodeRequest s.cfg r = .instr i ∧ feeds i = true ∧ s.rx = taken ++ t.rx)

/-- R63, U5 ("ids 13 to 15 are unused and a model refuses them") and log 13 (an operand wider than R130 gives it). -/
def Obligations.RequestsOutsideTheRulesAreRefused : Prop :=
  (∀ (s : State) (t : Nat) (r : OpRequest) (rest : List Event), s.agenda = .hostOp t r :: rest →
    13 ≤ r.id.toNat → step s = .refused (.unusedOperationId r.id.toNat)) ∧
  (∀ (s : State) (t : Nat) (r : OpRequest) (rest : List Event), s.agenda = .hostOp t r :: rest →
    (r.id = 0#4 ∨ r.id = 2#4 ∨ r.id = 3#4) → 2 ^ s.cfg.addrBits ≤ r.arg → step s = .refused .operandTooWide) ∧
  (∀ (s : State) (t : Nat) (r : OpRequest) (rest : List Event), s.agenda = .hostOp t r :: rest →
    r.id = 7#4 → 2 ^ s.cfg.timeWidth ≤ r.arg → step s = .refused .operandTooWide)

/-- R63 (D2), log 14: an operation that has no operand ignores the request's operand, and one that has no pump flag ignores
the flag. -/
def Obligations.RequestFieldsAnOperationLacksAreIgnored : Prop :=
  ∀ (c : Config) (arg : Nat) (pump : Bool),
    decodeRequest c ⟨0b0001#4, arg, pump⟩ = .instr .feed ∧
    decodeRequest c ⟨0b0100#4, arg, pump⟩ = .instr .getOffset ∧
    decodeRequest c ⟨0b0101#4, arg, pump⟩ = .instr .getCount ∧
    decodeRequest c ⟨0b0110#4, arg, pump⟩ = .instr .isIdle ∧
    decodeRequest c ⟨0b1000#4, arg, pump⟩ = .instr .getTimeout ∧
    decodeRequest c ⟨0b1001#4, arg, pump⟩ = .instr (.spAvail pump) ∧
    decodeRequest c ⟨0b1010#4, arg, pump⟩ = .instr .readSpOpcode ∧
    decodeRequest c ⟨0b1011#4, arg, pump⟩ = .instr .readSpData ∧
    decodeRequest c ⟨0b1100#4, arg, pump⟩ = .instr .shutdown ∧
    (arg < 2 ^ c.addrBits →
      decodeRequest c ⟨0b0000#4, arg, pump⟩ = .instr (.init arg) ∧
      decodeRequest c ⟨0b0011#4, arg, pump⟩ = .instr (.setOffset arg)) ∧
    (arg < 2 ^ c.timeWidth → decodeRequest c ⟨0b0111#4, arg, pump⟩ = .instr (.setTimeout arg))

/-- R171 (D21): before the first INIT every instruction but INIT is refused. -/
def Obligations.BeforeInitNothingHasAMeaning : Prop :=
  ∀ (i : Instr) (s : State), s.initialised = false → (∀ n, i ≠ .init n) →
    exec i s = .refused .notInitialised

/-! ## The rows of the wire -/

/-- R71: PAD is selected in every state, writes nothing, has `stop = 0`, and counts as a consumed byte for the loop. -/
def Obligations.PadChangesNothing : Prop :=
  (∀ st, decodeByte st 0x7D#8 = .pad) ∧
  (∀ s : State, s.initialised = true → exec .pad s = .next { s with stop := false }) ∧
  (∀ (s : State) (x : RxByte) (rest : List RxByte) (consumed : Bool), x.byte = 0x7D#8 →
    feedLoop (x :: rest) consumed s = feedLoop rest true { s with rx := rest, now := x.now, stop := false })

/-- R72, with the spec's decision D8 for `cursor`: START goes to `Command` from every state and writes nothing else. -/
def Obligations.StartRestartsTheFrame : Prop :=
  (∀ st, decodeByte st 0x7E#8 = .start) ∧
  (∀ s : State, s.initialised = true → exec .start s = .next { s with state := .command, stop := false })

/-- R73, R85: in `Init` and `Complete` every byte but PAD and START writes nothing, has `stop = 0`, and is consumed. -/
def Obligations.BytesOutsideAFrameAreIgnored : Prop :=
  (∀ b : Byte, b ≠ 0x7D#8 → b ≠ 0x7E#8 →
    decodeByte .init b = .initSkip b ∧ decodeByte .complete b = .doneSkip b) ∧
  (∀ (b : Byte) (s : State), s.initialised = true →
    exec (.initSkip b) s = .next { s with stop := false } ∧
    exec (.doneSkip b) s = .next { s with stop := false }) ∧
  (∀ (s : State) (x : RxByte) (rest : List RxByte) (consumed : Bool),
    s.state = .init ∨ s.state = .complete → x.byte ≠ 0x7E#8 →
    feedLoop (x :: rest) consumed s = feedLoop rest true { s with rx := rest, now := x.now, stop := false })

/-- R74: 0x80 in `Command` sets `cursor` to 0 and goes to `Data`; nothing else is written. -/
def Obligations.ChannelCommandZeroStartsAtZero : Prop :=
  decodeByte .command 0x80#8 = .cmdCh0 ∧
  (∀ s : State, s.initialised = true →
    exec .cmdCh0 s = .next { s with cursor := 0, state := .data, stop := false })

/-- R75, R54 (C1; D8 for the unchanged `cursor` of the abort): an accepted group sets `cursor` to `k * 8` and goes to
`Data`; any other abandons the frame to `Init`. -/
def Obligations.ChannelCommandSetsTheCursorOrAborts : Prop :=
  ∀ (k : BitVec 7) (s : State), s.initialised = true →
    (k.toNat ≤ s.cfg.maxAddress >>> 3 →
      exec (.cmdCh k) s = .next { s with cursor := k.toNat * 8, state := .data, stop := false }) ∧
    (s.cfg.maxAddress >>> 3 < k.toNat →
      exec (.cmdCh k) s = .next { s with state := .init, stop := false })

/-- R76, R77, R82: rows that only move the state. -/
def Obligations.CommandAndSpecialRowsMoveTheState : Prop :=
  (decodeByte .command 0x7A#8 = .cmdSpecial ∧ decodeByte .specialData 0x7F#8 = .spEsc ∧
    ∀ b : Byte, b.toNat ≤ 0x79 ∨ b = 0x7B#8 ∨ b = 0x7C#8 ∨ b = 0x7F#8 → decodeByte .command b = .cmdUnk b) ∧
  (∀ (b : Byte) (s : State), s.initialised = true →
    exec .cmdSpecial s = .next { s with state := .specialOpcode, stop := false } ∧
    exec (.cmdUnk b) s = .next { s with state := .complete, stop := false } ∧
    exec .spEsc s = .next { s with state := .specialEscape, stop := false })

/-- R78: ESCAPE in `Data` waits in `Escape` without moving `cursor` or storing; with no further byte it waits on, and
SET_OFFSET forces `Init`. -/
def Obligations.DataEscapeWaitsForTheNextByte : Prop :=
  decodeByte .data 0x7F#8 = .dataEsc ∧
  (∀ s : State, s.initialised = true → exec .dataEsc s = .next { s with state := .escape, stop := false }) ∧
  (∀ s : State, s.initialised = true → s.state = .escape → s.rx = [] →
    ∃ t, exec .feed s = .next t ∧ t.state = .escape) ∧
  (∀ (s : State) (o : Nat), s.initialised = true → s.state = .escape →
    ∃ t, exec (.setOffset o) s = .next t ∧ t.state = .init)

/-- R79, R86: the bytes that are literal data, and for each the address-write step in its three cases and the advance,
every register of the next state; in the window the byte reads back at its local index (for a register file in canonical
form, which `StepKeepsTheInvariant` keeps). -/
def Obligations.DataByteRunsTheAddressWrite : Prop :=
  (∀ b : Byte, b ≠ 0x7D#8 → b ≠ 0x7E#8 → b ≠ 0x7F#8 → decodeByte .data b = .dataLit b) ∧
  ∀ (v : Byte) (s : State), s.initialised = true → ∃ t, exec (.dataLit v) s = .next t ∧
    (s.cursor < s.offset → s.cursor = s.cfg.maxAddress →
      t = { s with state := .complete, stop := false }) ∧
    (s.cursor < s.offset → s.cursor ≠ s.cfg.maxAddress →
      t = { s with cursor := s.cursor + 1, state := .data, stop := false }) ∧
    (s.offset ≤ s.cursor → s.cursor - s.offset < s.capacity → s.cursor = s.cfg.maxAddress →
      t = { s with buf := s.buf.write (s.cursor - s.offset) v, lastActivity := s.sampleNow, idleFlag := false,
                   state := .complete, stop := false }) ∧
    (s.offset ≤ s.cursor → s.cursor - s.offset < s.capacity → s.cursor ≠ s.cfg.maxAddress →
      t = { s with buf := s.buf.write (s.cursor - s.offset) v, lastActivity := s.sampleNow, idleFlag := false,
                   cursor := s.cursor + 1, state := .data, stop := false }) ∧
    (s.offset ≤ s.cursor → s.cursor - s.offset < s.capacity → Memory.wf s.buf = true →
      t.readEntry (s.cursor - s.offset) = v) ∧
    (s.offset ≤ s.cursor → s.capacity ≤ s.cursor - s.offset →
      t = { s with state := .complete, stop := false })

/-- R80, R55 (D6): an escaped byte does what the literal byte `(x + 0x4E) mod 256` does from `Data`. -/
def Obligations.EscapedByteIsTheShiftedLiteral : Prop :=
  ∀ (x : Byte) (s : State), s.initialised = true → ∃ (v : Byte) (t : State),
    v.toNat = (x.toNat + 0x4E) % 256 ∧ exec (.escVal x) s = .next t ∧
    exec (.dataLit v) { s with state := .data } = .next t ∧ t.state ≠ .escape

/-- Source property S2 (R80, D6): in `Data`, ESCAPE and `x` leave the block exactly as the literal `(x + 0x4E) mod 256`. -/
def Obligations.EscapePairEqualsTheLiteral : Prop :=
  ∀ (x : Byte) (s : State), s.initialised = true → s.state = .data →
    ∃ t u, exec .dataEsc s = .next t ∧ exec (.escVal x) t = .next u ∧
      exec (.dataLit (x + 0x4E#8)) s = .next u

/-- R86, R39: the frame of the two rows that store: only the entry the cursor addresses changes, the idle monitor only
with it, and of the other registers only `cursor` and `state`. -/
def Obligations.StoringRowsFrame : Prop :=
  ∀ (i : Instr) (s t : State), (∃ v, i = .dataLit v ∨ i = .escVal v) → exec i s = .next t →
    (∀ a, s.cursorPlace = .inside a → ∀ j, j ≠ a → t.readEntry j = s.readEntry j) ∧
    ((∀ a, s.cursorPlace ≠ .inside a) →
      (∀ j, t.readEntry j = s.readEntry j) ∧ t.lastActivity = s.lastActivity ∧ t.idleFlag = s.idleFlag) ∧
    t.cfg = s.cfg ∧ t.offset = s.offset ∧ t.capacity = s.capacity ∧ t.spOpcodeHold = s.spOpcodeHold ∧
    t.spOpcode = s.spOpcode ∧ t.spData = s.spData ∧ t.spPending = s.spPending ∧ t.timeout = s.timeout ∧
    t.initialised = s.initialised ∧ t.linkOpen = s.linkOpen ∧ t.rx = s.rx ∧ t.now = s.now ∧
    t.agenda = s.agenda ∧ t.stop = false ∧ t.result = s.result ∧ t.freeCount = s.freeCount

/-- R10's "written by" column for the rows that do not store: no byte of the register file, no idle monitor, no host
register; the mailbox only on completion, the holding register only by SP.OPCODE, `cursor` only by a channel command. -/
def Obligations.OtherWireRowsFrame : Prop :=
  ∀ (i : Instr) (s t : State), isWire i = true → (∀ v, i ≠ .dataLit v ∧ i ≠ .escVal v) → exec i s = .next t →
    (∀ j, t.readEntry j = s.readEntry j) ∧ t.lastActivity = s.lastActivity ∧ t.idleFlag = s.idleFlag ∧
    t.cfg = s.cfg ∧ t.offset = s.offset ∧ t.capacity = s.capacity ∧ t.timeout = s.timeout ∧
    t.initialised = s.initialised ∧ t.linkOpen = s.linkOpen ∧ t.rx = s.rx ∧ t.now = s.now ∧
    t.agenda = s.agenda ∧ t.result = s.result ∧ t.freeCount = s.freeCount ∧
    ((∀ d, i ≠ .spData d ∧ i ≠ .spEscVal d) →
      t.spOpcode = s.spOpcode ∧ t.spData = s.spData ∧ t.spPending = s.spPending ∧ t.stop = false) ∧
    ((∀ op, i ≠ .spOpcode op) → t.spOpcodeHold = s.spOpcodeHold) ∧
    ((i ≠ .cmdCh0 ∧ ∀ k, i ≠ .cmdCh k) → t.cursor = s.cursor)

/-- R81 (D7, C3): the opcode byte goes to the holding register, whole, and the mailbox is not touched. -/
def Obligations.OpcodeWaitsInTheHoldingRegister : Prop :=
  (∀ b : Byte, b ≠ 0x7D#8 → b ≠ 0x7E#8 → decodeByte .specialOpcode b = .spOpcode b) ∧
  (∀ (op : Byte) (s : State), s.initialised = true →
    exec (.spOpcode op) s = .next { s with spOpcodeHold := op, state := .specialData, stop := false })

/-- R83, R84, R120, R156 (D6, D7): the data byte completes the command: the mailbox takes the held opcode and the data
(for SP.ESCVAL `(x + 0x4E) mod 256`), pending is set, the state is `Init`, `stop` is raised; nothing else is written. -/
def Obligations.SpecialCommandCompletes : Prop :=
  (∀ (d : Byte) (s : State), s.initialised = true →
    exec (.spData d) s = .next { s with spOpcode := s.spOpcodeHold, spData := d, spPending := true,
                                        state := .init, stop := true }) ∧
  (∀ (x : Byte) (s : State), s.initialised = true → ∃ v : Byte, v.toNat = (x.toNat + 0x4E) % 256 ∧
    exec (.spEscVal x) s = .next { s with spOpcode := s.spOpcodeHold, spData := v, spPending := true,
                                          state := .init, stop := true })

/-! ## The host operations -/

/-- R133, R170, R100 (D4, D10, D11, D21; log 12 for the byte source): what INIT leaves, from any state, whether or not an
INIT came before. Nothing is said of the three unspecified bytes. -/
def Obligations.InitPerformsReset : Prop :=
  ∀ (n : Nat) (s : State), ∃ t, exec (.init n) s = .next t ∧
    t.cfg = s.cfg ∧ t.state = .init ∧ t.cursor = 0 ∧ t.offset = 0 ∧ t.capacity = min n s.cfg.capMax ∧
    (∀ i, t.readEntry i = 0#8) ∧ t.spPending = false ∧ t.lastActivity = s.cfg.rstLastActivity ∧
    t.timeout = s.cfg.rstTimeout ∧ t.idleFlag = s.cfg.rstIdleFlag ∧ t.initialised = true ∧ t.linkOpen = true ∧
    t.rx = s.rx ∧ t.now = s.now ∧ t.agenda = s.agenda ∧ t.result = .none

/-- R24, R170 (D10): the values the spec gives for reset, and a capacity within the 8-bit cap. The capacity request of
32 and the 8-bit configuration are this model's choice (log 1, log 4). -/
def Obligations.ResetStateIsAsGiven : Prop :=
  State.reset.state = .init ∧ State.reset.cursor = 0 ∧ State.reset.offset = 0 ∧ State.reset.spPending = false ∧
  State.reset.capacity = 32 ∧ (∀ i, State.reset.readEntry i = 0#8) ∧
  State.reset.timeout = Config.build.rstTimeout ∧ State.reset.lastActivity = Config.build.rstLastActivity ∧
  State.reset.idleFlag = Config.build.rstIdleFlag

/-- R101 (D17): SET_OFFSET stores the offset, zeroes every entry, forces `Init` from `Data` and `Escape`, and writes
nothing else. -/
def Obligations.SetOffsetRetargetsTheWindow : Prop :=
  ∀ (o : Nat) (s : State), s.initialised = true → ∃ t, exec (.setOffset o) s = .next t ∧
    (∀ i, t.readEntry i = 0#8) ∧
    t = { s with offset := o, buf := t.buf, result := .none,
                 state := if s.state = .data ∨ s.state = .escape then .init else s.state }

/-- R40: a read gives the stored value inside the capacity and 0 outside it, and touches nothing. -/
def Obligations.ReadGivesTheEntryOrZero : Prop :=
  ∀ (i : Nat) (s : State), s.initialised = true →
    (i < s.capacity → exec (.read i false) s = .next { s with result := .byte (s.buf.read i) }) ∧
    (s.capacity ≤ i → exec (.read i false) s = .next { s with result := .byte 0#8 })

/-- R103, R104, R113, R122 (D18): the getters return their register and write no state. Before the first special command
completes, what SP_OPCODE returns is the free byte drawn at INIT; that it stays the same from read to read is this model's
choice, log 5 (U4 lets each read be any byte). -/
def Obligations.GettersReturnTheirRegister : Prop :=
  ∀ s : State, s.initialised = true →
    exec .getOffset s = .next { s with result := .address s.offset } ∧
    exec .getCount s = .next { s with result := .address s.capacity } ∧
    exec .getTimeout s = .next { s with result := .time s.timeout } ∧
    exec .readSpOpcode s = .next { s with result := .byte s.spOpcode }

/-- R121, R123 (D18): the peek returns `sp_pending`; the data read returns `sp_data` and clears `sp_pending`, pending or
not, and keeps both bytes. Before the first special command completes, what SP_DATA returns is the free byte drawn at INIT;
that it stays the same from read to read is this model's choice, log 5 (U4 lets each read be any byte). -/
def Obligations.MailboxPeekAndConsume : Prop :=
  ∀ s : State, s.initialised = true →
    exec (.spAvail false) s = .next { s with result := .bit s.spPending } ∧
    exec .readSpData s = .next { s with spPending := false, result := .byte s.spData }

/-- R111: the sticky flag answers 1; else the modular difference is compared, and a true comparison latches. (The request
that names it: `RequestFieldsAnOperationLacksAreIgnored`.) -/
def Obligations.IsIdleComparesAndLatches : Prop :=
  ∀ (s : State) (elapsed : Nat), s.initialised = true →
    (elapsed : Int) = ((s.sampleNow : Int) - (s.lastActivity : Int)) % (2 ^ s.cfg.timeWidth : Int) →
    (s.idleFlag = true → exec .isIdle s = .next { s with result := .bit true }) ∧
    (s.idleFlag = false → s.timeout ≤ elapsed →
      exec .isIdle s = .next { s with idleFlag := true, result := .bit true }) ∧
    (s.idleFlag = false → elapsed < s.timeout → exec .isIdle s = .next { s with result := .bit false })

/-- R112: SET_TIMEOUT writes `timeout` and nothing else. -/
def Obligations.SetTimeoutWritesTheTimeout : Prop :=
  ∀ (ms : Nat) (s : State), s.initialised = true →
    exec (.setTimeout ms) s = .next { s with timeout := ms, result := .none }

/-- R143 (D14): SHUTDOWN writes no register; the byte source then delivers nothing, so a FEED returns 0 and changes
nothing. -/
def Obligations.ShutdownSilencesTheByteSource : Prop :=
  ∀ s : State, s.initialised = true → ∃ t, exec .shutdown s = .next t ∧
    t = { s with linkOpen := false, result := .none } ∧
    exec .feed t = .next { t with result := .bit false }

/-- R87: FEED takes the available bytes in order, stepping on each with its own time, until none remains or a step
raised `stop`; no byte before the last taken raised it; the rest stay in the source; the result says whether any was
taken. -/
def Obligations.FeedRunsUntilStopOrEmpty : Prop :=
  ∀ s : State, s.initialised = true → s.linkOpen = true →
    ∃ (taken : List RxByte) (t : State), exec .feed s = .next t ∧
      s.rx = taken ++ t.rx ∧ t = { stepAll taken s with result := .bit (decide (taken ≠ [])) } ∧
      (∀ p q, taken = p ++ q → p ≠ [] → q ≠ [] → (stepAll p s).stop = false) ∧
      (t.rx = [] ∨ (taken ≠ [] ∧ t.stop = true))

/-- R87, R143: with no byte available FEED returns 0 and changes nothing. -/
def Obligations.FeedWithNothingAvailable : Prop :=
  ∀ s : State, s.initialised = true → s.rx = [] ∨ s.linkOpen = false →
    exec .feed s = .next { s with result := .bit false }

/-- R70, R87: FEED over a single byte does what exec of the row it selects does, and returns 1. -/
def Obligations.FeedOfOneByteIsItsStep : Prop :=
  ∀ (s : State) (x : RxByte), s.initialised = true → s.linkOpen = true → s.rx = [x] →
    ∃ t, exec (decodeByte s.state x.byte) { s with rx := [], now := x.now } = .next t ∧
      exec .feed s = .next { t with result := .bit true }

/-- R87, R37: FEED takes the oldest byte, runs the row it selects, and, unless that row raised `stop`, goes on as a FEED of
what it left; the result is 1. So every statement about a row's exec reaches each byte of a feed. -/
def Obligations.FeedTakesTheOldestByteAndGoesOn : Prop :=
  ∀ (s : State) (x : RxByte) (more : List RxByte), s.initialised = true → s.linkOpen = true → s.rx = x :: more →
    ∃ u, exec (decodeByte s.state x.byte) { s with rx := more, now := x.now } = .next u ∧ u.rx = more ∧
      (u.stop = true → exec .feed s = .next { u with result := .bit true }) ∧
      (u.stop = false → ∃ v, exec .feed u = .next v ∧ exec .feed s = .next { v with result := .bit true })

/-- R135, R140 (D15): with `pump = 1` READ and SP_AVAIL first run the feed, whose result is discarded. -/
def Obligations.PumpIsAFeedFirst : Prop :=
  ∀ (s : State) (i : Nat), s.initialised = true → ∃ t u w, exec .feed s = .next t ∧
    exec (.read i true) s = .next u ∧ exec (.read i false) t = .next u ∧
    exec (.spAvail true) s = .next w ∧ exec (.spAvail false) t = .next w

/-- R38, R39, R160: the frame of the host operations that take no bytes and are not INIT or SET_OFFSET: no byte of the
register file and no hidden register; only the flag, register or link each is named for. -/
def Obligations.PlainHostOperationsFrame : Prop :=
  ∀ (i : Instr) (s t : State), isWire i = false → feeds i = false → (∀ n, i ≠ .init n ∧ i ≠ .setOffset n) →
    exec i s = .next t →
    (∀ j, t.readEntry j = s.readEntry j) ∧ t.cfg = s.cfg ∧ t.state = s.state ∧ t.cursor = s.cursor ∧
    t.offset = s.offset ∧ t.capacity = s.capacity ∧ t.spOpcodeHold = s.spOpcodeHold ∧ t.spOpcode = s.spOpcode ∧
    t.spData = s.spData ∧ t.lastActivity = s.lastActivity ∧ t.initialised = s.initialised ∧ t.rx = s.rx ∧
    t.now = s.now ∧ t.agenda = s.agenda ∧ t.stop = s.stop ∧ t.freeCount = s.freeCount ∧
    (i ≠ .readSpData → t.spPending = s.spPending) ∧ (i ≠ .isIdle → t.idleFlag = s.idleFlag) ∧
    ((∀ ms, i ≠ .setTimeout ms) → t.timeout = s.timeout) ∧ (i ≠ .shutdown → t.linkOpen = s.linkOpen)

/-! ## Rules about the whole machine -/

/-- R10's widths and R15's range, as `State.Inv`: every step keeps them, from every state that has them. -/
def Obligations.StepKeepsTheInvariant : Prop :=
  ∀ s t : State, s.Inv → step s = .next t → t.Inv

/-- The state after reset has the invariant, whatever the open parameters are. -/
def Obligations.ResetMeetsTheInvariant : Prop := State.reset.Inv

/-- R105, in its four parts: the capacity is fixed by INIT; after SET_OFFSET every read returns 0, and entries that are
all 0 stay so until a byte is written in the window, by the row itself or by a byte that the feed took and that selects a
storing row; outside INIT and SET_OFFSET a host operation changes the register
file only by bytes the decoder takes; a read never fails and changes nothing. -/
def Obligations.BufferPropertiesHold : Prop :=
  (∀ (i : Instr) (s t : State), (∀ n, i ≠ .init n) → exec i s = .next t → t.capacity = s.capacity) ∧
  (∀ (o j : Nat) (s : State), s.initialised = true → ∃ t, exec (.setOffset o) s = .next t ∧
    exec (.read j false) t = .next { t with result := .byte 0#8 }) ∧
  (∀ (i : Instr) (s t : State), exec i s = .next t → (∀ j, s.readEntry j = 0#8) →
    (∀ j, t.readEntry j = 0#8) ∨ ((∃ v, i = .dataLit v ∨ i = .escVal v) ∧ ∃ a, s.cursorPlace = .inside a) ∨
    (feeds i = true ∧ s.linkOpen = true ∧
      ∃ (before : List RxByte) (x : RxByte) (after : List RxByte) (v : Byte) (a : Nat),
        s.rx = before ++ x :: (after ++ t.rx) ∧
        (decodeByte (stepAll before s).state x.byte = .dataLit v ∨
          decodeByte (stepAll before s).state x.byte = .escVal v) ∧
        (stepAll before s).cursorPlace = .inside a)) ∧
  (∀ (i : Instr) (s t : State), isWire i = false → (∀ n, i ≠ .init n ∧ i ≠ .setOffset n) → exec i s = .next t →
    ∃ taken, s.rx = taken ++ t.rx ∧ t.buf = (stepAll taken s).buf ∧ (feeds i = false → taken = [])) ∧
  (∀ (j : Nat) (s : State), s.initialised = true →
    exec (.read j false) s = .next { s with result := .byte (s.readEntry j) })

/-- R13, R14, R20, R160: no instruction changes the parameters; only INIT and SET_OFFSET write `offset`, only INIT and
SET_TIMEOUT `timeout`. FEED and the pumps included. -/
def Obligations.ConfigurationRegistersHaveOneWriter : Prop :=
  ∀ (i : Instr) (s t : State), exec i s = .next t →
    t.cfg = s.cfg ∧
    ((∀ n, i ≠ .init n ∧ i ≠ .setOffset n) → t.offset = s.offset) ∧
    ((∀ n, i ≠ .init n ∧ i ≠ .setTimeout n) → t.timeout = s.timeout)

/-- R21, R110, R115 (C5): outside INIT the timestamp changes and the idle flag clears only by an in-window write: by the
row itself, or by a byte that the feed took and that selects a storing row with the cursor in the window. -/
def Obligations.OnlyAnInWindowWriteIsActivity : Prop :=
  ∀ (i : Instr) (s t : State), exec i s = .next t → (∀ n, i ≠ .init n) →
    (s.idleFlag = true ∧ t.idleFlag = false) ∨ t.lastActivity ≠ s.lastActivity →
    ((∃ v, i = .dataLit v ∨ i = .escVal v) ∧ ∃ a, s.cursorPlace = .inside a) ∨
    (feeds i = true ∧ s.linkOpen = true ∧
      ∃ (before : List RxByte) (x : RxByte) (after : List RxByte) (v : Byte) (a : Nat),
        s.rx = before ++ x :: (after ++ t.rx) ∧
        (decodeByte (stepAll before s).state x.byte = .dataLit v ∨
          decodeByte (stepAll before s).state x.byte = .escVal v) ∧
        (stepAll before s).cursorPlace = .inside a)

/-- R21: outside INIT only IS_IDLE sets the idle flag. -/
def Obligations.OnlyIsIdleSetsTheIdleFlag : Prop :=
  ∀ (i : Instr) (s t : State), exec i s = .next t → (∀ n, i ≠ .init n) →
    s.idleFlag = false → t.idleFlag = true → i = .isIdle

/-- R18, R22, R88 (4): a row raises `stop` exactly when it completes a special command, and then it sets `sp_pending`;
no other row changes it; and only SP_DATA and INIT clear it, feeds included. -/
def Obligations.PendingIsSetWithStopAndClearedByTheRead : Prop :=
  (∀ (i : Instr) (s t : State), isWire i = true → exec i s = .next t →
    (t.stop = true ↔ ∃ d, i = .spData d ∨ i = .spEscVal d) ∧
    (t.stop = true → t.spPending = true) ∧ (t.stop = false → t.spPending = s.spPending)) ∧
  (∀ (i : Instr) (s t : State), exec i s = .next t → s.spPending = true → t.spPending = false →
    i = .readSpData ∨ ∃ n, i = .init n)

/-- R12, R88 (1): within a frame, between two bytes that leave the decoder in `Data` or `Escape`, the cursor stays or
grows by one, and never passes `MAX_ADDRESS`. -/
def Obligations.CursorNeverDecreasesInAFrame : Prop :=
  ∀ (s t : State) (b : Byte), exec (decodeByte s.state b) s = .next t →
    usesCursor s.state = true → usesCursor t.state = true →
    (t.cursor = s.cursor ∨ t.cursor = s.cursor + 1) ∧
    (s.cursor ≤ s.cfg.maxAddress → t.cursor ≤ s.cfg.maxAddress)

/-- R88 (2): from which state each state is entered. -/
def Obligations.StatesAreEnteredOnlyAsTabled : Prop :=
  ∀ (s t : State) (b : Byte), exec (decodeByte s.state b) s = .next t → t.state ≠ s.state →
    (t.state = .escape → s.state = .data) ∧
    (t.state = .specialData → s.state = .specialOpcode) ∧
    (t.state = .specialEscape → s.state = .specialData) ∧
    (t.state = .specialOpcode → s.state = .command) ∧
    (t.state = .data → s.state = .command ∨ s.state = .escape) ∧
    (t.state = .command → b = 0x7E#8)

/-- R88 (5), R159: from any state START and an accepted CH(k) put the decoder in `Data` with `cursor = k * 8`. -/
def Obligations.StartAndChannelResynchronise : Prop :=
  ∀ (s : State) (k : BitVec 7), s.initialised = true → groupAccepted s.cfg k = true →
    ∃ t u, exec (decodeByte s.state 0x7E#8) s = .next t ∧
      exec (decodeByte t.state (channelByte k)) t = .next u ∧ u.state = .data ∧ u.cursor = k.toNat * 8

/-- R89: after FEED of a whole channel frame of literal data, every entry of the window that the frame addresses holds
its byte and every other entry is unchanged. -/
def Obligations.ChannelFrameStoresItsData : Prop :=
  ∀ (s : State) (k : BitVec 7) (t0 t1 : Nat) (ds : List RxByte),
    s.initialised = true → s.linkOpen = true → Memory.wf s.buf = true → groupAccepted s.cfg k = true →
    (∀ d ∈ ds, isLiteral d.byte = true) →
    s.rx = ⟨0x7E#8, t0⟩ :: ⟨channelByte k, t1⟩ :: ds →
    ∃ t, exec .feed s = .next t ∧ t.rx = [] ∧ t.result = .bit true ∧
      (∀ (j i : Nat) (d : RxByte), ds[j]? = some d → k.toNat * 8 + j ≤ s.cfg.maxAddress →
        windowPlace s.offset s.capacity (k.toNat * 8 + j) = .inside i → t.readEntry i = d.byte) ∧
      (∀ i : Nat, (∀ j, j < ds.length → k.toNat * 8 + j ≤ s.cfg.maxAddress →
          windowPlace s.offset s.capacity (k.toNat * 8 + j) ≠ .inside i) →
        t.readEntry i = s.readEntry i)

/-- R124, R87 (source property S6): FEED of START, SPECIAL_COMMAND, opcode, data stops there, leaves the bytes that
follow, makes SP_AVAIL 1 and SP_OPCODE the opcode, twice; SP_DATA gives the data, after which SP_AVAIL is 0. -/
def Obligations.SpecialCommandRoundTrip : Prop :=
  ∀ (s : State) (op d : Byte) (t0 t1 t2 t3 : Nat) (more : List RxByte),
    s.initialised = true → s.linkOpen = true → reachesDispatch op = true → isLiteral d = true →
    s.rx = ⟨0x7E#8, t0⟩ :: ⟨0x7A#8, t1⟩ :: ⟨op, t2⟩ :: ⟨d, t3⟩ :: more →
    ∃ a b c e f g, exec .feed s = .next a ∧ a.rx = more ∧ a.stop = true ∧
      exec (.spAvail false) a = .next b ∧ b.result = .bit true ∧
      exec .readSpOpcode b = .next c ∧ c.result = .byte op ∧
      exec .readSpOpcode c = .next e ∧ e.result = .byte op ∧
      exec .readSpData e = .next f ∧ f.result = .byte d ∧
      exec (.spAvail false) f = .next g ∧ g.result = .bit false

/-- R52, R71: PAD bytes anywhere in the stream make no difference: FEED leaves the block as if they had not been
sent, and the rest of the stream is the same but for its PADs. -/
def Obligations.PadsAreTransparent : Prop :=
  ∀ s : State, s.initialised = true → ∃ t u, exec .feed s = .next t ∧
    exec .feed { s with rx := dropPads s.rx } = .next u ∧ SameBlock t u ∧ dropPads t.rx = u.rx

/-- R12, R16, R23, U3: `cursor` outside `Data` and `Escape`, and `sp_opcode_hold` outside `SpecialData` and
`SpecialEscape`, are read by nothing: two states that differ only there answer alike, step after step. -/
def Obligations.HiddenRegistersAreInvisible : Prop :=
  ∀ s t : State, SameVisible s t → outcomesAgree SameVisible (step s) (step t)

/-- R60, R85: `Init` and `Complete` behave identically on every later event. -/
def Obligations.InitAndCompleteBehaveAlike : Prop :=
  ∀ s t : State, SameButIdleState s t → outcomesAgree SameButIdleState (step s) (step t)

/-- R114, R176, log 8: with `T` the true time since the last in-window write and the flag not latched, IS_IDLE answers
by `T mod 2^TIME_WIDTH`: 0 below the timeout, 1 and latched from it on, and 0 again after a missed poll. -/
def Obligations.IdleAnswersInTrueTime : Prop :=
  ∀ (s : State) (t0 T : Nat), s.initialised = true → s.idleFlag = false →
    s.lastActivity = t0 % s.cfg.timeModulus → s.now = t0 + T → s.timeout < s.cfg.timeModulus →
    (T < s.timeout → exec .isIdle s = .next { s with result := .bit false }) ∧
    (s.timeout ≤ T % s.cfg.timeModulus →
      exec .isIdle s = .next { s with idleFlag := true, result := .bit true }) ∧
    (T % s.cfg.timeModulus < s.timeout → exec .isIdle s = .next { s with result := .bit false })

/-- R114, R111 corner (1) (C6): directly after an in-window write IS_IDLE answers 0 when the timeout is at least 1, and
1 when it is 0. -/
def Obligations.NotIdleDirectlyAfterAnInWindowWrite : Prop :=
  ∀ (s : State) (v : Byte) (a : Nat), s.initialised = true → s.cursorPlace = .inside a →
    ∃ t u, exec (.dataLit v) s = .next t ∧ exec .isIdle t = .next u ∧
      u.result = .bit (decide (s.timeout = 0)) ∧ (1 ≤ s.timeout → u.idleFlag = false)
end

