-- ==== Sys2Proof/Laws/Config.lean ====
section
/-!
SUPPORT. The parameters' ranges and the operand widths as propositions.
-/

namespace Sys2Proof

theorem Config.wf_iff {c : Config} : c.wf = true ↔
    c.capMax16 ≤ 65535 ∧ c.rstTimeout < c.timeModulus ∧ c.rstLastActivity < c.timeModulus := by
  simp [Config.wf, and_assoc]

theorem Config.timeModulus_pos (c : Config) : 0 < c.timeModulus := Nat.two_pow_pos _

theorem Config.maxAddress_of_w8 {c : Config} (h : c.addrWidth = .w8) : c.maxAddress = 255 := by
  simp [Config.maxAddress, Config.addrBits, h]

theorem Config.maxAddress_of_w16 {c : Config} (h : c.addrWidth = .w16) : c.maxAddress = 65535 := by
  simp [Config.maxAddress, Config.addrBits, h]

/-- An operand of `ADDR_WIDTH` bits is at most `MAX_ADDRESS`. -/
theorem fitsAddress_iff {c : Config} {n : Nat} : fitsAddress c n = true ↔ n ≤ c.maxAddress := by
  have := Nat.two_pow_pos c.addrBits
  simp only [fitsAddress, Config.maxAddress, decide_eq_true_eq]
  omega

theorem fitsTime_iff {c : Config} {n : Nat} : fitsTime c n = true ↔ n < c.timeModulus := by
  simp [fitsTime]

end Sys2Proof
end

