-- ==== Sys2Proof/Laws/Memory.lean ====
section
/-!
SUPPORT. The register file as memory: read after write, and that every operation keeps the canonical form.
-/

namespace Sys2Proof.Machine

@[simp] theorem Memory.read_nil (i : Nat) : Memory.read [] i = 0#8 := rfl

@[simp] theorem Memory.wf_nil : Memory.wf [] = true := rfl

/-- The canonical form of a list with a first entry. -/
theorem Memory.wf_cons {a : Nat} {v : Byte} {m : Memory} :
    Memory.wf ((a, v) :: m) = true ↔ v ≠ 0#8 ∧ (∀ c ∈ m, a < c.1) ∧ Memory.wf m = true := by
  simp [Memory.wf, and_assoc]

/-- An index below every listed one reads 0. -/
theorem Memory.read_of_lt {m : Memory} {i : Nat} (h : ∀ c ∈ m, i < c.1) : Memory.read m i = 0#8 := by
  induction m with
  | nil => rfl
  | cons c m ih =>
    have hc := h c (by simp)
    have : c.1 ≠ i := by omega
    simp [Memory.read, this, ih (fun d hd => h d (by simp [hd]))]

theorem Memory.read_insert_same (m : Memory) (i : Nat) (v : Byte) :
    Memory.read (Memory.insert i v m) i = v := by
  induction m with
  | nil => simp [Memory.insert, Memory.read]
  | cons c m ih =>
    unfold Memory.insert
    split
    · simp [Memory.read]
    · split
      · simp [Memory.read]
      · rename_i h; simp [Memory.read, h, ih]

theorem Memory.read_insert_ne (m : Memory) {i j : Nat} (v : Byte) (h : j ≠ i) :
    Memory.read (Memory.insert i v m) j = Memory.read m j := by
  induction m with
  | nil => simp [Memory.insert, Memory.read, Ne.symm h]
  | cons c m ih =>
    unfold Memory.insert
    split
    · simp [Memory.read, Ne.symm h]
    · split
      · rename_i hc; subst hc; simp [Memory.read, Ne.symm h]
      · simp [Memory.read, ih]

theorem Memory.read_erase_ne (m : Memory) {i j : Nat} (h : j ≠ i) :
    Memory.read (Memory.erase i m) j = Memory.read m j := by
  induction m with
  | nil => rfl
  | cons c m ih =>
    unfold Memory.erase
    split
    · rename_i hc; subst hc; simp [Memory.read, Ne.symm h]
    · simp [Memory.read, ih]

theorem Memory.read_erase_same {m : Memory} (i : Nat) (h : Memory.wf m = true) :
    Memory.read (Memory.erase i m) i = 0#8 := by
  induction m with
  | nil => rfl
  | cons c m ih =>
    obtain ⟨-, hlt, hm⟩ := Memory.wf_cons.1 h
    unfold Memory.erase
    split
    · rename_i hc; subst hc; exact Memory.read_of_lt hlt
    · rename_i hc; simp [Memory.read, hc, ih hm]

/-- A read after a write to the same index gives the value written. -/
theorem Memory.read_write_same {m : Memory} (i : Nat) (v : Byte) (h : Memory.wf m = true) :
    Memory.read (Memory.write i v m) i = v := by
  unfold Memory.write
  split
  · rename_i hv; subst hv; exact Memory.read_erase_same i h
  · exact Memory.read_insert_same m i v

/-- A write leaves every other index alone. -/
theorem Memory.read_write_ne (m : Memory) {i j : Nat} (v : Byte) (h : j ≠ i) :
    Memory.read (Memory.write i v m) j = Memory.read m j := by
  unfold Memory.write
  split
  · exact Memory.read_erase_ne m h
  · exact Memory.read_insert_ne m v h

theorem Memory.mem_insert {m : Memory} {i : Nat} {v : Byte} {c : Host.Cell} (h : c ∈ Memory.insert i v m) :
    c = (i, v) ∨ c ∈ m := by
  induction m with
  | nil => simpa [Memory.insert] using h
  | cons d m ih =>
    unfold Memory.insert at h
    split at h
    · simpa using h
    · split at h
      · simp only [List.mem_cons] at h ⊢; tauto
      · simp only [List.mem_cons] at h ⊢
        rcases h with h | h
        · exact .inr (.inl h)
        · rcases ih h with h | h
          · exact .inl h
          · exact .inr (.inr h)

theorem Memory.mem_erase {m : Memory} {i : Nat} {c : Host.Cell} (h : c ∈ Memory.erase i m) : c ∈ m := by
  induction m with
  | nil => simp [Memory.erase] at h
  | cons d m ih =>
    unfold Memory.erase at h
    split at h
    · exact List.mem_cons_of_mem _ h
    · rcases List.mem_cons.1 h with h | h
      · simp [h]
      · exact List.mem_cons_of_mem _ (ih h)

/-- A write lists no index but its own and those listed before. -/
theorem Memory.mem_write {m : Memory} {i : Nat} {v : Byte} {c : Host.Cell} (h : c ∈ Memory.write i v m) :
    c.1 = i ∨ c ∈ m := by
  unfold Memory.write at h
  split at h
  · exact .inr (Memory.mem_erase h)
  · rcases Memory.mem_insert h with h | h
    · exact .inl (by rw [h])
    · exact .inr h

theorem Memory.wf_erase {m : Memory} (i : Nat) (h : Memory.wf m = true) : Memory.wf (Memory.erase i m) = true := by
  induction m with
  | nil => rfl
  | cons c m ih =>
    obtain ⟨hv, hlt, hm⟩ := Memory.wf_cons.1 h
    unfold Memory.erase
    split
    · exact hm
    · exact Memory.wf_cons.2 ⟨hv, fun d hd => hlt d (Memory.mem_erase hd), ih hm⟩

theorem Memory.wf_insert {m : Memory} (i : Nat) {v : Byte} (hv : v ≠ 0#8) (h : Memory.wf m = true) :
    Memory.wf (Memory.insert i v m) = true := by
  induction m with
  | nil => simp [Memory.insert, Memory.wf, hv]
  | cons c m ih =>
    obtain ⟨hc, hlt, hm⟩ := Memory.wf_cons.1 h
    unfold Memory.insert
    split
    · rename_i hi
      refine Memory.wf_cons.2 ⟨hv, fun d hd => ?_, h⟩
      rcases List.mem_cons.1 hd with rfl | hd
      · exact hi
      · exact Nat.lt_trans hi (hlt d hd)
    · rename_i hi
      split
      · rename_i he
        exact Memory.wf_cons.2 ⟨hv, fun d hd => by have := hlt d hd; omega, hm⟩
      · rename_i he
        refine Memory.wf_cons.2 ⟨hc, fun d hd => ?_, ih hm⟩
        rcases Memory.mem_insert hd with rfl | hd
        · show c.1 < i; omega
        · exact hlt d hd

/-- A write keeps the canonical form. -/
theorem Memory.wf_write {m : Memory} (i : Nat) (v : Byte) (h : Memory.wf m = true) :
    Memory.wf (Memory.write i v m) = true := by
  unfold Memory.write
  split
  · exact Memory.wf_erase i h
  · rename_i hv; exact Memory.wf_insert i hv h

/-- In canonical form, memories that read alike are equal data. -/
theorem Memory.eq_of_read_eq {m n : Memory} (hm : Memory.wf m = true) (hn : Memory.wf n = true)
    (h : ∀ i, Memory.read m i = Memory.read n i) : m = n := by
  induction m generalizing n with
  | nil =>
    cases n with
    | nil => rfl
    | cons d n =>
      obtain ⟨hv, -, -⟩ := Memory.wf_cons.1 hn
      have := h d.1
      simp [Memory.read] at this
      exact absurd this.symm hv
  | cons c m ih =>
    obtain ⟨hc, hclt, hm'⟩ := Memory.wf_cons.1 hm
    cases n with
    | nil =>
      have := h c.1
      simp [Memory.read] at this
      exact absurd this hc
    | cons d n =>
      obtain ⟨hd, hdlt, hn'⟩ := Memory.wf_cons.1 hn
      have hkey : c.1 = d.1 := by
        rcases Nat.lt_trichotomy c.1 d.1 with hlt | heq | hgt
        · have := h c.1
          rw [Memory.read_of_lt (m := d :: n) (i := c.1)
            (fun e he => by rcases List.mem_cons.1 he with rfl | he; exacts [hlt, Nat.lt_trans hlt (hdlt e he)])] at this
          simp [Memory.read] at this
          exact absurd this hc
        · exact heq
        · have := h d.1
          rw [Memory.read_of_lt (m := c :: m) (i := d.1)
            (fun e he => by rcases List.mem_cons.1 he with rfl | he; exacts [hgt, Nat.lt_trans hgt (hclt e he)])] at this
          simp [Memory.read] at this
          exact absurd this.symm hd
      have hval : c.2 = d.2 := by
        have := h c.1
        simpa [Memory.read, hkey] using this
      have hrest : m = n := by
        refine ih hm' hn' fun i => ?_
        have := h i
        by_cases hi : c.1 = i
        · rw [Memory.read_of_lt (fun e he => by have := hclt e he; omega),
            Memory.read_of_lt (fun e he => by have := hdlt e he; omega)]
        · have hi' : d.1 ≠ i := by omega
          simpa [Memory.read, hi, hi'] using this
      rw [Prod.ext hkey hval, hrest]

/-- The register file that SET_OFFSET leaves, and the one after reset, are in canonical form. -/
theorem State.zeroBuffer_wf (s : State) : Memory.wf s.zeroBuffer.buf = true := rfl
theorem State.reset_buf_wf : Memory.wf State.reset.buf = true := rfl

end Sys2Proof.Machine
end

