-- ==== Sys2Proof/Laws/State.lean ====
section
/-!
SUPPORT. One lemma per field per register update, so that no later proof unfolds a record update.
-/

namespace Sys2Proof.Machine

/-! ### setState -/

@[simp] theorem State.setState_cfg (s : State) (st : DecState) : (s.setState st).cfg = s.cfg := rfl
@[simp] theorem State.setState_state (s : State) (st : DecState) : (s.setState st).state = st := rfl
@[simp] theorem State.setState_cursor (s : State) (st : DecState) : (s.setState st).cursor = s.cursor := rfl
@[simp] theorem State.setState_offset (s : State) (st : DecState) : (s.setState st).offset = s.offset := rfl
@[simp] theorem State.setState_capacity (s : State) (st : DecState) : (s.setState st).capacity = s.capacity := rfl
@[simp] theorem State.setState_buf (s : State) (st : DecState) : (s.setState st).buf = s.buf := rfl
@[simp] theorem State.setState_spOpcodeHold (s : State) (st : DecState) : (s.setState st).spOpcodeHold = s.spOpcodeHold := rfl
@[simp] theorem State.setState_spOpcode (s : State) (st : DecState) : (s.setState st).spOpcode = s.spOpcode := rfl
@[simp] theorem State.setState_spData (s : State) (st : DecState) : (s.setState st).spData = s.spData := rfl
@[simp] theorem State.setState_spPending (s : State) (st : DecState) : (s.setState st).spPending = s.spPending := rfl
@[simp] theorem State.setState_lastActivity (s : State) (st : DecState) : (s.setState st).lastActivity = s.lastActivity := rfl
@[simp] theorem State.setState_timeout (s : State) (st : DecState) : (s.setState st).timeout = s.timeout := rfl
@[simp] theorem State.setState_idleFlag (s : State) (st : DecState) : (s.setState st).idleFlag = s.idleFlag := rfl
@[simp] theorem State.setState_initialised (s : State) (st : DecState) : (s.setState st).initialised = s.initialised := rfl
@[simp] theorem State.setState_linkOpen (s : State) (st : DecState) : (s.setState st).linkOpen = s.linkOpen := rfl
@[simp] theorem State.setState_rx (s : State) (st : DecState) : (s.setState st).rx = s.rx := rfl
@[simp] theorem State.setState_now (s : State) (st : DecState) : (s.setState st).now = s.now := rfl
@[simp] theorem State.setState_agenda (s : State) (st : DecState) : (s.setState st).agenda = s.agenda := rfl
@[simp] theorem State.setState_stop (s : State) (st : DecState) : (s.setState st).stop = s.stop := rfl
@[simp] theorem State.setState_result (s : State) (st : DecState) : (s.setState st).result = s.result := rfl
@[simp] theorem State.setState_freeCount (s : State) (st : DecState) : (s.setState st).freeCount = s.freeCount := rfl

/-! ### setStop -/

@[simp] theorem State.setStop_cfg (s : State) (b : Bool) : (s.setStop b).cfg = s.cfg := rfl
@[simp] theorem State.setStop_state (s : State) (b : Bool) : (s.setStop b).state = s.state := rfl
@[simp] theorem State.setStop_cursor (s : State) (b : Bool) : (s.setStop b).cursor = s.cursor := rfl
@[simp] theorem State.setStop_offset (s : State) (b : Bool) : (s.setStop b).offset = s.offset := rfl
@[simp] theorem State.setStop_capacity (s : State) (b : Bool) : (s.setStop b).capacity = s.capacity := rfl
@[simp] theorem State.setStop_buf (s : State) (b : Bool) : (s.setStop b).buf = s.buf := rfl
@[simp] theorem State.setStop_spOpcodeHold (s : State) (b : Bool) : (s.setStop b).spOpcodeHold = s.spOpcodeHold := rfl
@[simp] theorem State.setStop_spOpcode (s : State) (b : Bool) : (s.setStop b).spOpcode = s.spOpcode := rfl
@[simp] theorem State.setStop_spData (s : State) (b : Bool) : (s.setStop b).spData = s.spData := rfl
@[simp] theorem State.setStop_spPending (s : State) (b : Bool) : (s.setStop b).spPending = s.spPending := rfl
@[simp] theorem State.setStop_lastActivity (s : State) (b : Bool) : (s.setStop b).lastActivity = s.lastActivity := rfl
@[simp] theorem State.setStop_timeout (s : State) (b : Bool) : (s.setStop b).timeout = s.timeout := rfl
@[simp] theorem State.setStop_idleFlag (s : State) (b : Bool) : (s.setStop b).idleFlag = s.idleFlag := rfl
@[simp] theorem State.setStop_initialised (s : State) (b : Bool) : (s.setStop b).initialised = s.initialised := rfl
@[simp] theorem State.setStop_linkOpen (s : State) (b : Bool) : (s.setStop b).linkOpen = s.linkOpen := rfl
@[simp] theorem State.setStop_rx (s : State) (b : Bool) : (s.setStop b).rx = s.rx := rfl
@[simp] theorem State.setStop_now (s : State) (b : Bool) : (s.setStop b).now = s.now := rfl
@[simp] theorem State.setStop_agenda (s : State) (b : Bool) : (s.setStop b).agenda = s.agenda := rfl
@[simp] theorem State.setStop_stop (s : State) (b : Bool) : (s.setStop b).stop = b := rfl
@[simp] theorem State.setStop_result (s : State) (b : Bool) : (s.setStop b).result = s.result := rfl
@[simp] theorem State.setStop_freeCount (s : State) (b : Bool) : (s.setStop b).freeCount = s.freeCount := rfl

/-! ### setResult -/

@[simp] theorem State.setResult_cfg (s : State) (r : Result) : (s.setResult r).cfg = s.cfg := rfl
@[simp] theorem State.setResult_state (s : State) (r : Result) : (s.setResult r).state = s.state := rfl
@[simp] theorem State.setResult_cursor (s : State) (r : Result) : (s.setResult r).cursor = s.cursor := rfl
@[simp] theorem State.setResult_offset (s : State) (r : Result) : (s.setResult r).offset = s.offset := rfl
@[simp] theorem State.setResult_capacity (s : State) (r : Result) : (s.setResult r).capacity = s.capacity := rfl
@[simp] theorem State.setResult_buf (s : State) (r : Result) : (s.setResult r).buf = s.buf := rfl
@[simp] theorem State.setResult_spOpcodeHold (s : State) (r : Result) : (s.setResult r).spOpcodeHold = s.spOpcodeHold := rfl
@[simp] theorem State.setResult_spOpcode (s : State) (r : Result) : (s.setResult r).spOpcode = s.spOpcode := rfl
@[simp] theorem State.setResult_spData (s : State) (r : Result) : (s.setResult r).spData = s.spData := rfl
@[simp] theorem State.setResult_spPending (s : State) (r : Result) : (s.setResult r).spPending = s.spPending := rfl
@[simp] theorem State.setResult_lastActivity (s : State) (r : Result) : (s.setResult r).lastActivity = s.lastActivity := rfl
@[simp] theorem State.setResult_timeout (s : State) (r : Result) : (s.setResult r).timeout = s.timeout := rfl
@[simp] theorem State.setResult_idleFlag (s : State) (r : Result) : (s.setResult r).idleFlag = s.idleFlag := rfl
@[simp] theorem State.setResult_initialised (s : State) (r : Result) : (s.setResult r).initialised = s.initialised := rfl
@[simp] theorem State.setResult_linkOpen (s : State) (r : Result) : (s.setResult r).linkOpen = s.linkOpen := rfl
@[simp] theorem State.setResult_rx (s : State) (r : Result) : (s.setResult r).rx = s.rx := rfl
@[simp] theorem State.setResult_now (s : State) (r : Result) : (s.setResult r).now = s.now := rfl
@[simp] theorem State.setResult_agenda (s : State) (r : Result) : (s.setResult r).agenda = s.agenda := rfl
@[simp] theorem State.setResult_stop (s : State) (r : Result) : (s.setResult r).stop = s.stop := rfl
@[simp] theorem State.setResult_result (s : State) (r : Result) : (s.setResult r).result = r := rfl
@[simp] theorem State.setResult_freeCount (s : State) (r : Result) : (s.setResult r).freeCount = s.freeCount := rfl

/-! ### setCursor -/

@[simp] theorem State.setCursor_cfg (s : State) (a : Nat) : (s.setCursor a).cfg = s.cfg := rfl
@[simp] theorem State.setCursor_state (s : State) (a : Nat) : (s.setCursor a).state = s.state := rfl
@[simp] theorem State.setCursor_cursor (s : State) (a : Nat) : (s.setCursor a).cursor = a := rfl
@[simp] theorem State.setCursor_offset (s : State) (a : Nat) : (s.setCursor a).offset = s.offset := rfl
@[simp] theorem State.setCursor_capacity (s : State) (a : Nat) : (s.setCursor a).capacity = s.capacity := rfl
@[simp] theorem State.setCursor_buf (s : State) (a : Nat) : (s.setCursor a).buf = s.buf := rfl
@[simp] theorem State.setCursor_spOpcodeHold (s : State) (a : Nat) : (s.setCursor a).spOpcodeHold = s.spOpcodeHold := rfl
@[simp] theorem State.setCursor_spOpcode (s : State) (a : Nat) : (s.setCursor a).spOpcode = s.spOpcode := rfl
@[simp] theorem State.setCursor_spData (s : State) (a : Nat) : (s.setCursor a).spData = s.spData := rfl
@[simp] theorem State.setCursor_spPending (s : State) (a : Nat) : (s.setCursor a).spPending = s.spPending := rfl
@[simp] theorem State.setCursor_lastActivity (s : State) (a : Nat) : (s.setCursor a).lastActivity = s.lastActivity := rfl
@[simp] theorem State.setCursor_timeout (s : State) (a : Nat) : (s.setCursor a).timeout = s.timeout := rfl
@[simp] theorem State.setCursor_idleFlag (s : State) (a : Nat) : (s.setCursor a).idleFlag = s.idleFlag := rfl
@[simp] theorem State.setCursor_initialised (s : State) (a : Nat) : (s.setCursor a).initialised = s.initialised := rfl
@[simp] theorem State.setCursor_linkOpen (s : State) (a : Nat) : (s.setCursor a).linkOpen = s.linkOpen := rfl
@[simp] theorem State.setCursor_rx (s : State) (a : Nat) : (s.setCursor a).rx = s.rx := rfl
@[simp] theorem State.setCursor_now (s : State) (a : Nat) : (s.setCursor a).now = s.now := rfl
@[simp] theorem State.setCursor_agenda (s : State) (a : Nat) : (s.setCursor a).agenda = s.agenda := rfl
@[simp] theorem State.setCursor_stop (s : State) (a : Nat) : (s.setCursor a).stop = s.stop := rfl
@[simp] theorem State.setCursor_result (s : State) (a : Nat) : (s.setCursor a).result = s.result := rfl
@[simp] theorem State.setCursor_freeCount (s : State) (a : Nat) : (s.setCursor a).freeCount = s.freeCount := rfl

/-! ### writeOffset -/

@[simp] theorem State.writeOffset_cfg (s : State) (a : Nat) : (s.writeOffset a).cfg = s.cfg := rfl
@[simp] theorem State.writeOffset_state (s : State) (a : Nat) : (s.writeOffset a).state = s.state := rfl
@[simp] theorem State.writeOffset_cursor (s : State) (a : Nat) : (s.writeOffset a).cursor = s.cursor := rfl
@[simp] theorem State.writeOffset_offset (s : State) (a : Nat) : (s.writeOffset a).offset = a := rfl
@[simp] theorem State.writeOffset_capacity (s : State) (a : Nat) : (s.writeOffset a).capacity = s.capacity := rfl
@[simp] theorem State.writeOffset_buf (s : State) (a : Nat) : (s.writeOffset a).buf = s.buf := rfl
@[simp] theorem State.writeOffset_spOpcodeHold (s : State) (a : Nat) : (s.writeOffset a).spOpcodeHold = s.spOpcodeHold := rfl
@[simp] theorem State.writeOffset_spOpcode (s : State) (a : Nat) : (s.writeOffset a).spOpcode = s.spOpcode := rfl
@[simp] theorem State.writeOffset_spData (s : State) (a : Nat) : (s.writeOffset a).spData = s.spData := rfl
@[simp] theorem State.writeOffset_spPending (s : State) (a : Nat) : (s.writeOffset a).spPending = s.spPending := rfl
@[simp] theorem State.writeOffset_lastActivity (s : State) (a : Nat) : (s.writeOffset a).lastActivity = s.lastActivity := rfl
@[simp] theorem State.writeOffset_timeout (s : State) (a : Nat) : (s.writeOffset a).timeout = s.timeout := rfl
@[simp] theorem State.writeOffset_idleFlag (s : State) (a : Nat) : (s.writeOffset a).idleFlag = s.idleFlag := rfl
@[simp] theorem State.writeOffset_initialised (s : State) (a : Nat) : (s.writeOffset a).initialised = s.initialised := rfl
@[simp] theorem State.writeOffset_linkOpen (s : State) (a : Nat) : (s.writeOffset a).linkOpen = s.linkOpen := rfl
@[simp] theorem State.writeOffset_rx (s : State) (a : Nat) : (s.writeOffset a).rx = s.rx := rfl
@[simp] theorem State.writeOffset_now (s : State) (a : Nat) : (s.writeOffset a).now = s.now := rfl
@[simp] theorem State.writeOffset_agenda (s : State) (a : Nat) : (s.writeOffset a).agenda = s.agenda := rfl
@[simp] theorem State.writeOffset_stop (s : State) (a : Nat) : (s.writeOffset a).stop = s.stop := rfl
@[simp] theorem State.writeOffset_result (s : State) (a : Nat) : (s.writeOffset a).result = s.result := rfl
@[simp] theorem State.writeOffset_freeCount (s : State) (a : Nat) : (s.writeOffset a).freeCount = s.freeCount := rfl

/-! ### storeEntry -/

@[simp] theorem State.storeEntry_cfg (s : State) (i : Nat) (v : Byte) : (s.storeEntry i v).cfg = s.cfg := rfl
@[simp] theorem State.storeEntry_state (s : State) (i : Nat) (v : Byte) : (s.storeEntry i v).state = s.state := rfl
@[simp] theorem State.storeEntry_cursor (s : State) (i : Nat) (v : Byte) : (s.storeEntry i v).cursor = s.cursor := rfl
@[simp] theorem State.storeEntry_offset (s : State) (i : Nat) (v : Byte) : (s.storeEntry i v).offset = s.offset := rfl
@[simp] theorem State.storeEntry_capacity (s : State) (i : Nat) (v : Byte) : (s.storeEntry i v).capacity = s.capacity := rfl
@[simp] theorem State.storeEntry_buf (s : State) (i : Nat) (v : Byte) : (s.storeEntry i v).buf = s.buf.write i v := rfl
@[simp] theorem State.storeEntry_spOpcodeHold (s : State) (i : Nat) (v : Byte) : (s.storeEntry i v).spOpcodeHold = s.spOpcodeHold := rfl
@[simp] theorem State.storeEntry_spOpcode (s : State) (i : Nat) (v : Byte) : (s.storeEntry i v).spOpcode = s.spOpcode := rfl
@[simp] theorem State.storeEntry_spData (s : State) (i : Nat) (v : Byte) : (s.storeEntry i v).spData = s.spData := rfl
@[simp] theorem State.storeEntry_spPending (s : State) (i : Nat) (v : Byte) : (s.storeEntry i v).spPending = s.spPending := rfl
@[simp] theorem State.storeEntry_lastActivity (s : State) (i : Nat) (v : Byte) : (s.storeEntry i v).lastActivity = s.lastActivity := rfl
@[simp] theorem State.storeEntry_timeout (s : State) (i : Nat) (v : Byte) : (s.storeEntry i v).timeout = s.timeout := rfl
@[simp] theorem State.storeEntry_idleFlag (s : State) (i : Nat) (v : Byte) : (s.storeEntry i v).idleFlag = s.idleFlag := rfl
@[simp] theorem State.storeEntry_initialised (s : State) (i : Nat) (v : Byte) : (s.storeEntry i v).initialised = s.initialised := rfl
@[simp] theorem State.storeEntry_linkOpen (s : State) (i : Nat) (v : Byte) : (s.storeEntry i v).linkOpen = s.linkOpen := rfl
@[simp] theorem State.storeEntry_rx (s : State) (i : Nat) (v : Byte) : (s.storeEntry i v).rx = s.rx := rfl
@[simp] theorem State.storeEntry_now (s : State) (i : Nat) (v : Byte) : (s.storeEntry i v).now = s.now := rfl
@[simp] theorem State.storeEntry_agenda (s : State) (i : Nat) (v : Byte) : (s.storeEntry i v).agenda = s.agenda := rfl
@[simp] theorem State.storeEntry_stop (s : State) (i : Nat) (v : Byte) : (s.storeEntry i v).stop = s.stop := rfl
@[simp] theorem State.storeEntry_result (s : State) (i : Nat) (v : Byte) : (s.storeEntry i v).result = s.result := rfl
@[simp] theorem State.storeEntry_freeCount (s : State) (i : Nat) (v : Byte) : (s.storeEntry i v).freeCount = s.freeCount := rfl

/-! ### zeroBuffer -/

@[simp] theorem State.zeroBuffer_cfg (s : State) : (s.zeroBuffer).cfg = s.cfg := rfl
@[simp] theorem State.zeroBuffer_state (s : State) : (s.zeroBuffer).state = s.state := rfl
@[simp] theorem State.zeroBuffer_cursor (s : State) : (s.zeroBuffer).cursor = s.cursor := rfl
@[simp] theorem State.zeroBuffer_offset (s : State) : (s.zeroBuffer).offset = s.offset := rfl
@[simp] theorem State.zeroBuffer_capacity (s : State) : (s.zeroBuffer).capacity = s.capacity := rfl
@[simp] theorem State.zeroBuffer_buf (s : State) : (s.zeroBuffer).buf = [] := rfl
@[simp] theorem State.zeroBuffer_spOpcodeHold (s : State) : (s.zeroBuffer).spOpcodeHold = s.spOpcodeHold := rfl
@[simp] theorem State.zeroBuffer_spOpcode (s : State) : (s.zeroBuffer).spOpcode = s.spOpcode := rfl
@[simp] theorem State.zeroBuffer_spData (s : State) : (s.zeroBuffer).spData = s.spData := rfl
@[simp] theorem State.zeroBuffer_spPending (s : State) : (s.zeroBuffer).spPending = s.spPending := rfl
@[simp] theorem State.zeroBuffer_lastActivity (s : State) : (s.zeroBuffer).lastActivity = s.lastActivity := rfl
@[simp] theorem State.zeroBuffer_timeout (s : State) : (s.zeroBuffer).timeout = s.timeout := rfl
@[simp] theorem State.zeroBuffer_idleFlag (s : State) : (s.zeroBuffer).idleFlag = s.idleFlag := rfl
@[simp] theorem State.zeroBuffer_initialised (s : State) : (s.zeroBuffer).initialised = s.initialised := rfl
@[simp] theorem State.zeroBuffer_linkOpen (s : State) : (s.zeroBuffer).linkOpen = s.linkOpen := rfl
@[simp] theorem State.zeroBuffer_rx (s : State) : (s.zeroBuffer).rx = s.rx := rfl
@[simp] theorem State.zeroBuffer_now (s : State) : (s.zeroBuffer).now = s.now := rfl
@[simp] theorem State.zeroBuffer_agenda (s : State) : (s.zeroBuffer).agenda = s.agenda := rfl
@[simp] theorem State.zeroBuffer_stop (s : State) : (s.zeroBuffer).stop = s.stop := rfl
@[simp] theorem State.zeroBuffer_result (s : State) : (s.zeroBuffer).result = s.result := rfl
@[simp] theorem State.zeroBuffer_freeCount (s : State) : (s.zeroBuffer).freeCount = s.freeCount := rfl

/-! ### setHold -/

@[simp] theorem State.setHold_cfg (s : State) (op : Byte) : (s.setHold op).cfg = s.cfg := rfl
@[simp] theorem State.setHold_state (s : State) (op : Byte) : (s.setHold op).state = s.state := rfl
@[simp] theorem State.setHold_cursor (s : State) (op : Byte) : (s.setHold op).cursor = s.cursor := rfl
@[simp] theorem State.setHold_offset (s : State) (op : Byte) : (s.setHold op).offset = s.offset := rfl
@[simp] theorem State.setHold_capacity (s : State) (op : Byte) : (s.setHold op).capacity = s.capacity := rfl
@[simp] theorem State.setHold_buf (s : State) (op : Byte) : (s.setHold op).buf = s.buf := rfl
@[simp] theorem State.setHold_spOpcodeHold (s : State) (op : Byte) : (s.setHold op).spOpcodeHold = op := rfl
@[simp] theorem State.setHold_spOpcode (s : State) (op : Byte) : (s.setHold op).spOpcode = s.spOpcode := rfl
@[simp] theorem State.setHold_spData (s : State) (op : Byte) : (s.setHold op).spData = s.spData := rfl
@[simp] theorem State.setHold_spPending (s : State) (op : Byte) : (s.setHold op).spPending = s.spPending := rfl
@[simp] theorem State.setHold_lastActivity (s : State) (op : Byte) : (s.setHold op).lastActivity = s.lastActivity := rfl
@[simp] theorem State.setHold_timeout (s : State) (op : Byte) : (s.setHold op).timeout = s.timeout := rfl
@[simp] theorem State.setHold_idleFlag (s : State) (op : Byte) : (s.setHold op).idleFlag = s.idleFlag := rfl
@[simp] theorem State.setHold_initialised (s : State) (op : Byte) : (s.setHold op).initialised = s.initialised := rfl
@[simp] theorem State.setHold_linkOpen (s : State) (op : Byte) : (s.setHold op).linkOpen = s.linkOpen := rfl
@[simp] theorem State.setHold_rx (s : State) (op : Byte) : (s.setHold op).rx = s.rx := rfl
@[simp] theorem State.setHold_now (s : State) (op : Byte) : (s.setHold op).now = s.now := rfl
@[simp] theorem State.setHold_agenda (s : State) (op : Byte) : (s.setHold op).agenda = s.agenda := rfl
@[simp] theorem State.setHold_stop (s : State) (op : Byte) : (s.setHold op).stop = s.stop := rfl
@[simp] theorem State.setHold_result (s : State) (op : Byte) : (s.setHold op).result = s.result := rfl
@[simp] theorem State.setHold_freeCount (s : State) (op : Byte) : (s.setHold op).freeCount = s.freeCount := rfl

/-! ### specialSet -/

@[simp] theorem State.specialSet_cfg (s : State) (o d : Byte) : (s.specialSet o d).cfg = s.cfg := rfl
@[simp] theorem State.specialSet_state (s : State) (o d : Byte) : (s.specialSet o d).state = s.state := rfl
@[simp] theorem State.specialSet_cursor (s : State) (o d : Byte) : (s.specialSet o d).cursor = s.cursor := rfl
@[simp] theorem State.specialSet_offset (s : State) (o d : Byte) : (s.specialSet o d).offset = s.offset := rfl
@[simp] theorem State.specialSet_capacity (s : State) (o d : Byte) : (s.specialSet o d).capacity = s.capacity := rfl
@[simp] theorem State.specialSet_buf (s : State) (o d : Byte) : (s.specialSet o d).buf = s.buf := rfl
@[simp] theorem State.specialSet_spOpcodeHold (s : State) (o d : Byte) : (s.specialSet o d).spOpcodeHold = s.spOpcodeHold := rfl
@[simp] theorem State.specialSet_spOpcode (s : State) (o d : Byte) : (s.specialSet o d).spOpcode = o := rfl
@[simp] theorem State.specialSet_spData (s : State) (o d : Byte) : (s.specialSet o d).spData = d := rfl
@[simp] theorem State.specialSet_spPending (s : State) (o d : Byte) : (s.specialSet o d).spPending = true := rfl
@[simp] theorem State.specialSet_lastActivity (s : State) (o d : Byte) : (s.specialSet o d).lastActivity = s.lastActivity := rfl
@[simp] theorem State.specialSet_timeout (s : State) (o d : Byte) : (s.specialSet o d).timeout = s.timeout := rfl
@[simp] theorem State.specialSet_idleFlag (s : State) (o d : Byte) : (s.specialSet o d).idleFlag = s.idleFlag := rfl
@[simp] theorem State.specialSet_initialised (s : State) (o d : Byte) : (s.specialSet o d).initialised = s.initialised := rfl
@[simp] theorem State.specialSet_linkOpen (s : State) (o d : Byte) : (s.specialSet o d).linkOpen = s.linkOpen := rfl
@[simp] theorem State.specialSet_rx (s : State) (o d : Byte) : (s.specialSet o d).rx = s.rx := rfl
@[simp] theorem State.specialSet_now (s : State) (o d : Byte) : (s.specialSet o d).now = s.now := rfl
@[simp] theorem State.specialSet_agenda (s : State) (o d : Byte) : (s.specialSet o d).agenda = s.agenda := rfl
@[simp] theorem State.specialSet_stop (s : State) (o d : Byte) : (s.specialSet o d).stop = s.stop := rfl
@[simp] theorem State.specialSet_result (s : State) (o d : Byte) : (s.specialSet o d).result = s.result := rfl
@[simp] theorem State.specialSet_freeCount (s : State) (o d : Byte) : (s.specialSet o d).freeCount = s.freeCount := rfl

/-! ### clearPending -/

@[simp] theorem State.clearPending_cfg (s : State) : (s.clearPending).cfg = s.cfg := rfl
@[simp] theorem State.clearPending_state (s : State) : (s.clearPending).state = s.state := rfl
@[simp] theorem State.clearPending_cursor (s : State) : (s.clearPending).cursor = s.cursor := rfl
@[simp] theorem State.clearPending_offset (s : State) : (s.clearPending).offset = s.offset := rfl
@[simp] theorem State.clearPending_capacity (s : State) : (s.clearPending).capacity = s.capacity := rfl
@[simp] theorem State.clearPending_buf (s : State) : (s.clearPending).buf = s.buf := rfl
@[simp] theorem State.clearPending_spOpcodeHold (s : State) : (s.clearPending).spOpcodeHold = s.spOpcodeHold := rfl
@[simp] theorem State.clearPending_spOpcode (s : State) : (s.clearPending).spOpcode = s.spOpcode := rfl
@[simp] theorem State.clearPending_spData (s : State) : (s.clearPending).spData = s.spData := rfl
@[simp] theorem State.clearPending_spPending (s : State) : (s.clearPending).spPending = false := rfl
@[simp] theorem State.clearPending_lastActivity (s : State) : (s.clearPending).lastActivity = s.lastActivity := rfl
@[simp] theorem State.clearPending_timeout (s : State) : (s.clearPending).timeout = s.timeout := rfl
@[simp] theorem State.clearPending_idleFlag (s : State) : (s.clearPending).idleFlag = s.idleFlag := rfl
@[simp] theorem State.clearPending_initialised (s : State) : (s.clearPending).initialised = s.initialised := rfl
@[simp] theorem State.clearPending_linkOpen (s : State) : (s.clearPending).linkOpen = s.linkOpen := rfl
@[simp] theorem State.clearPending_rx (s : State) : (s.clearPending).rx = s.rx := rfl
@[simp] theorem State.clearPending_now (s : State) : (s.clearPending).now = s.now := rfl
@[simp] theorem State.clearPending_agenda (s : State) : (s.clearPending).agenda = s.agenda := rfl
@[simp] theorem State.clearPending_stop (s : State) : (s.clearPending).stop = s.stop := rfl
@[simp] theorem State.clearPending_result (s : State) : (s.clearPending).result = s.result := rfl
@[simp] theorem State.clearPending_freeCount (s : State) : (s.clearPending).freeCount = s.freeCount := rfl

/-! ### writeTimeout -/

@[simp] theorem State.writeTimeout_cfg (s : State) (ms : Nat) : (s.writeTimeout ms).cfg = s.cfg := rfl
@[simp] theorem State.writeTimeout_state (s : State) (ms : Nat) : (s.writeTimeout ms).state = s.state := rfl
@[simp] theorem State.writeTimeout_cursor (s : State) (ms : Nat) : (s.writeTimeout ms).cursor = s.cursor := rfl
@[simp] theorem State.writeTimeout_offset (s : State) (ms : Nat) : (s.writeTimeout ms).offset = s.offset := rfl
@[simp] theorem State.writeTimeout_capacity (s : State) (ms : Nat) : (s.writeTimeout ms).capacity = s.capacity := rfl
@[simp] theorem State.writeTimeout_buf (s : State) (ms : Nat) : (s.writeTimeout ms).buf = s.buf := rfl
@[simp] theorem State.writeTimeout_spOpcodeHold (s : State) (ms : Nat) : (s.writeTimeout ms).spOpcodeHold = s.spOpcodeHold := rfl
@[simp] theorem State.writeTimeout_spOpcode (s : State) (ms : Nat) : (s.writeTimeout ms).spOpcode = s.spOpcode := rfl
@[simp] theorem State.writeTimeout_spData (s : State) (ms : Nat) : (s.writeTimeout ms).spData = s.spData := rfl
@[simp] theorem State.writeTimeout_spPending (s : State) (ms : Nat) : (s.writeTimeout ms).spPending = s.spPending := rfl
@[simp] theorem State.writeTimeout_lastActivity (s : State) (ms : Nat) : (s.writeTimeout ms).lastActivity = s.lastActivity := rfl
@[simp] theorem State.writeTimeout_timeout (s : State) (ms : Nat) : (s.writeTimeout ms).timeout = ms := rfl
@[simp] theorem State.writeTimeout_idleFlag (s : State) (ms : Nat) : (s.writeTimeout ms).idleFlag = s.idleFlag := rfl
@[simp] theorem State.writeTimeout_initialised (s : State) (ms : Nat) : (s.writeTimeout ms).initialised = s.initialised := rfl
@[simp] theorem State.writeTimeout_linkOpen (s : State) (ms : Nat) : (s.writeTimeout ms).linkOpen = s.linkOpen := rfl
@[simp] theorem State.writeTimeout_rx (s : State) (ms : Nat) : (s.writeTimeout ms).rx = s.rx := rfl
@[simp] theorem State.writeTimeout_now (s : State) (ms : Nat) : (s.writeTimeout ms).now = s.now := rfl
@[simp] theorem State.writeTimeout_agenda (s : State) (ms : Nat) : (s.writeTimeout ms).agenda = s.agenda := rfl
@[simp] theorem State.writeTimeout_stop (s : State) (ms : Nat) : (s.writeTimeout ms).stop = s.stop := rfl
@[simp] theorem State.writeTimeout_result (s : State) (ms : Nat) : (s.writeTimeout ms).result = s.result := rfl
@[simp] theorem State.writeTimeout_freeCount (s : State) (ms : Nat) : (s.writeTimeout ms).freeCount = s.freeCount := rfl

/-! ### setLink -/

@[simp] theorem State.setLink_cfg (s : State) (b : Bool) : (s.setLink b).cfg = s.cfg := rfl
@[simp] theorem State.setLink_state (s : State) (b : Bool) : (s.setLink b).state = s.state := rfl
@[simp] theorem State.setLink_cursor (s : State) (b : Bool) : (s.setLink b).cursor = s.cursor := rfl
@[simp] theorem State.setLink_offset (s : State) (b : Bool) : (s.setLink b).offset = s.offset := rfl
@[simp] theorem State.setLink_capacity (s : State) (b : Bool) : (s.setLink b).capacity = s.capacity := rfl
@[simp] theorem State.setLink_buf (s : State) (b : Bool) : (s.setLink b).buf = s.buf := rfl
@[simp] theorem State.setLink_spOpcodeHold (s : State) (b : Bool) : (s.setLink b).spOpcodeHold = s.spOpcodeHold := rfl
@[simp] theorem State.setLink_spOpcode (s : State) (b : Bool) : (s.setLink b).spOpcode = s.spOpcode := rfl
@[simp] theorem State.setLink_spData (s : State) (b : Bool) : (s.setLink b).spData = s.spData := rfl
@[simp] theorem State.setLink_spPending (s : State) (b : Bool) : (s.setLink b).spPending = s.spPending := rfl
@[simp] theorem State.setLink_lastActivity (s : State) (b : Bool) : (s.setLink b).lastActivity = s.lastActivity := rfl
@[simp] theorem State.setLink_timeout (s : State) (b : Bool) : (s.setLink b).timeout = s.timeout := rfl
@[simp] theorem State.setLink_idleFlag (s : State) (b : Bool) : (s.setLink b).idleFlag = s.idleFlag := rfl
@[simp] theorem State.setLink_initialised (s : State) (b : Bool) : (s.setLink b).initialised = s.initialised := rfl
@[simp] theorem State.setLink_linkOpen (s : State) (b : Bool) : (s.setLink b).linkOpen = b := rfl
@[simp] theorem State.setLink_rx (s : State) (b : Bool) : (s.setLink b).rx = s.rx := rfl
@[simp] theorem State.setLink_now (s : State) (b : Bool) : (s.setLink b).now = s.now := rfl
@[simp] theorem State.setLink_agenda (s : State) (b : Bool) : (s.setLink b).agenda = s.agenda := rfl
@[simp] theorem State.setLink_stop (s : State) (b : Bool) : (s.setLink b).stop = s.stop := rfl
@[simp] theorem State.setLink_result (s : State) (b : Bool) : (s.setLink b).result = s.result := rfl
@[simp] theorem State.setLink_freeCount (s : State) (b : Bool) : (s.setLink b).freeCount = s.freeCount := rfl

/-! ### takeByte -/

@[simp] theorem State.takeByte_cfg (s : State) (x : RxByte) (rest : List RxByte) : (s.takeByte x rest).cfg = s.cfg := rfl
@[simp] theorem State.takeByte_state (s : State) (x : RxByte) (rest : List RxByte) : (s.takeByte x rest).state = s.state := rfl
@[simp] theorem State.takeByte_cursor (s : State) (x : RxByte) (rest : List RxByte) : (s.takeByte x rest).cursor = s.cursor := rfl
@[simp] theorem State.takeByte_offset (s : State) (x : RxByte) (rest : List RxByte) : (s.takeByte x rest).offset = s.offset := rfl
@[simp] theorem State.takeByte_capacity (s : State) (x : RxByte) (rest : List RxByte) : (s.takeByte x rest).capacity = s.capacity := rfl
@[simp] theorem State.takeByte_buf (s : State) (x : RxByte) (rest : List RxByte) : (s.takeByte x rest).buf = s.buf := rfl
@[simp] theorem State.takeByte_spOpcodeHold (s : State) (x : RxByte) (rest : List RxByte) : (s.takeByte x rest).spOpcodeHold = s.spOpcodeHold := rfl
@[simp] theorem State.takeByte_spOpcode (s : State) (x : RxByte) (rest : List RxByte) : (s.takeByte x rest).spOpcode = s.spOpcode := rfl
@[simp] theorem State.takeByte_spData (s : State) (x : RxByte) (rest : List RxByte) : (s.takeByte x rest).spData = s.spData := rfl
@[simp] theorem State.takeByte_spPending (s : State) (x : RxByte) (rest : List RxByte) : (s.takeByte x rest).spPending = s.spPending := rfl
@[simp] theorem State.takeByte_lastActivity (s : State) (x : RxByte) (rest : List RxByte) : (s.takeByte x rest).lastActivity = s.lastActivity := rfl
@[simp] theorem State.takeByte_timeout (s : State) (x : RxByte) (rest : List RxByte) : (s.takeByte x rest).timeout = s.timeout := rfl
@[simp] theorem State.takeByte_idleFlag (s : State) (x : RxByte) (rest : List RxByte) : (s.takeByte x rest).idleFlag = s.idleFlag := rfl
@[simp] theorem State.takeByte_initialised (s : State) (x : RxByte) (rest : List RxByte) : (s.takeByte x rest).initialised = s.initialised := rfl
@[simp] theorem State.takeByte_linkOpen (s : State) (x : RxByte) (rest : List RxByte) : (s.takeByte x rest).linkOpen = s.linkOpen := rfl
@[simp] theorem State.takeByte_rx (s : State) (x : RxByte) (rest : List RxByte) : (s.takeByte x rest).rx = rest := rfl
@[simp] theorem State.takeByte_now (s : State) (x : RxByte) (rest : List RxByte) : (s.takeByte x rest).now = x.now := rfl
@[simp] theorem State.takeByte_agenda (s : State) (x : RxByte) (rest : List RxByte) : (s.takeByte x rest).agenda = s.agenda := rfl
@[simp] theorem State.takeByte_stop (s : State) (x : RxByte) (rest : List RxByte) : (s.takeByte x rest).stop = s.stop := rfl
@[simp] theorem State.takeByte_result (s : State) (x : RxByte) (rest : List RxByte) : (s.takeByte x rest).result = s.result := rfl
@[simp] theorem State.takeByte_freeCount (s : State) (x : RxByte) (rest : List RxByte) : (s.takeByte x rest).freeCount = s.freeCount := rfl

/-! ### appendRx -/

@[simp] theorem State.appendRx_cfg (s : State) (bytes : List RxByte) : (s.appendRx bytes).cfg = s.cfg := rfl
@[simp] theorem State.appendRx_state (s : State) (bytes : List RxByte) : (s.appendRx bytes).state = s.state := rfl
@[simp] theorem State.appendRx_cursor (s : State) (bytes : List RxByte) : (s.appendRx bytes).cursor = s.cursor := rfl
@[simp] theorem State.appendRx_offset (s : State) (bytes : List RxByte) : (s.appendRx bytes).offset = s.offset := rfl
@[simp] theorem State.appendRx_capacity (s : State) (bytes : List RxByte) : (s.appendRx bytes).capacity = s.capacity := rfl
@[simp] theorem State.appendRx_buf (s : State) (bytes : List RxByte) : (s.appendRx bytes).buf = s.buf := rfl
@[simp] theorem State.appendRx_spOpcodeHold (s : State) (bytes : List RxByte) : (s.appendRx bytes).spOpcodeHold = s.spOpcodeHold := rfl
@[simp] theorem State.appendRx_spOpcode (s : State) (bytes : List RxByte) : (s.appendRx bytes).spOpcode = s.spOpcode := rfl
@[simp] theorem State.appendRx_spData (s : State) (bytes : List RxByte) : (s.appendRx bytes).spData = s.spData := rfl
@[simp] theorem State.appendRx_spPending (s : State) (bytes : List RxByte) : (s.appendRx bytes).spPending = s.spPending := rfl
@[simp] theorem State.appendRx_lastActivity (s : State) (bytes : List RxByte) : (s.appendRx bytes).lastActivity = s.lastActivity := rfl
@[simp] theorem State.appendRx_timeout (s : State) (bytes : List RxByte) : (s.appendRx bytes).timeout = s.timeout := rfl
@[simp] theorem State.appendRx_idleFlag (s : State) (bytes : List RxByte) : (s.appendRx bytes).idleFlag = s.idleFlag := rfl
@[simp] theorem State.appendRx_initialised (s : State) (bytes : List RxByte) : (s.appendRx bytes).initialised = s.initialised := rfl
@[simp] theorem State.appendRx_linkOpen (s : State) (bytes : List RxByte) : (s.appendRx bytes).linkOpen = s.linkOpen := rfl
@[simp] theorem State.appendRx_rx (s : State) (bytes : List RxByte) : (s.appendRx bytes).rx = s.rx ++ bytes := rfl
@[simp] theorem State.appendRx_now (s : State) (bytes : List RxByte) : (s.appendRx bytes).now = s.now := rfl
@[simp] theorem State.appendRx_agenda (s : State) (bytes : List RxByte) : (s.appendRx bytes).agenda = s.agenda := rfl
@[simp] theorem State.appendRx_stop (s : State) (bytes : List RxByte) : (s.appendRx bytes).stop = s.stop := rfl
@[simp] theorem State.appendRx_result (s : State) (bytes : List RxByte) : (s.appendRx bytes).result = s.result := rfl
@[simp] theorem State.appendRx_freeCount (s : State) (bytes : List RxByte) : (s.appendRx bytes).freeCount = s.freeCount := rfl

/-! ### nextEvent -/

@[simp] theorem State.nextEvent_cfg (s : State) (rest : List Event) : (s.nextEvent rest).cfg = s.cfg := rfl
@[simp] theorem State.nextEvent_state (s : State) (rest : List Event) : (s.nextEvent rest).state = s.state := rfl
@[simp] theorem State.nextEvent_cursor (s : State) (rest : List Event) : (s.nextEvent rest).cursor = s.cursor := rfl
@[simp] theorem State.nextEvent_offset (s : State) (rest : List Event) : (s.nextEvent rest).offset = s.offset := rfl
@[simp] theorem State.nextEvent_capacity (s : State) (rest : List Event) : (s.nextEvent rest).capacity = s.capacity := rfl
@[simp] theorem State.nextEvent_buf (s : State) (rest : List Event) : (s.nextEvent rest).buf = s.buf := rfl
@[simp] theorem State.nextEvent_spOpcodeHold (s : State) (rest : List Event) : (s.nextEvent rest).spOpcodeHold = s.spOpcodeHold := rfl
@[simp] theorem State.nextEvent_spOpcode (s : State) (rest : List Event) : (s.nextEvent rest).spOpcode = s.spOpcode := rfl
@[simp] theorem State.nextEvent_spData (s : State) (rest : List Event) : (s.nextEvent rest).spData = s.spData := rfl
@[simp] theorem State.nextEvent_spPending (s : State) (rest : List Event) : (s.nextEvent rest).spPending = s.spPending := rfl
@[simp] theorem State.nextEvent_lastActivity (s : State) (rest : List Event) : (s.nextEvent rest).lastActivity = s.lastActivity := rfl
@[simp] theorem State.nextEvent_timeout (s : State) (rest : List Event) : (s.nextEvent rest).timeout = s.timeout := rfl
@[simp] theorem State.nextEvent_idleFlag (s : State) (rest : List Event) : (s.nextEvent rest).idleFlag = s.idleFlag := rfl
@[simp] theorem State.nextEvent_initialised (s : State) (rest : List Event) : (s.nextEvent rest).initialised = s.initialised := rfl
@[simp] theorem State.nextEvent_linkOpen (s : State) (rest : List Event) : (s.nextEvent rest).linkOpen = s.linkOpen := rfl
@[simp] theorem State.nextEvent_rx (s : State) (rest : List Event) : (s.nextEvent rest).rx = s.rx := rfl
@[simp] theorem State.nextEvent_now (s : State) (rest : List Event) : (s.nextEvent rest).now = s.now := rfl
@[simp] theorem State.nextEvent_agenda (s : State) (rest : List Event) : (s.nextEvent rest).agenda = rest := rfl
@[simp] theorem State.nextEvent_stop (s : State) (rest : List Event) : (s.nextEvent rest).stop = false := rfl
@[simp] theorem State.nextEvent_result (s : State) (rest : List Event) : (s.nextEvent rest).result = .none := rfl
@[simp] theorem State.nextEvent_freeCount (s : State) (rest : List Event) : (s.nextEvent rest).freeCount = s.freeCount := rfl

/-! ### setNow -/

@[simp] theorem State.setNow_cfg (s : State) (t : Nat) : (s.setNow t).cfg = s.cfg := rfl
@[simp] theorem State.setNow_state (s : State) (t : Nat) : (s.setNow t).state = s.state := rfl
@[simp] theorem State.setNow_cursor (s : State) (t : Nat) : (s.setNow t).cursor = s.cursor := rfl
@[simp] theorem State.setNow_offset (s : State) (t : Nat) : (s.setNow t).offset = s.offset := rfl
@[simp] theorem State.setNow_capacity (s : State) (t : Nat) : (s.setNow t).capacity = s.capacity := rfl
@[simp] theorem State.setNow_buf (s : State) (t : Nat) : (s.setNow t).buf = s.buf := rfl
@[simp] theorem State.setNow_spOpcodeHold (s : State) (t : Nat) : (s.setNow t).spOpcodeHold = s.spOpcodeHold := rfl
@[simp] theorem State.setNow_spOpcode (s : State) (t : Nat) : (s.setNow t).spOpcode = s.spOpcode := rfl
@[simp] theorem State.setNow_spData (s : State) (t : Nat) : (s.setNow t).spData = s.spData := rfl
@[simp] theorem State.setNow_spPending (s : State) (t : Nat) : (s.setNow t).spPending = s.spPending := rfl
@[simp] theorem State.setNow_lastActivity (s : State) (t : Nat) : (s.setNow t).lastActivity = s.lastActivity := rfl
@[simp] theorem State.setNow_timeout (s : State) (t : Nat) : (s.setNow t).timeout = s.timeout := rfl
@[simp] theorem State.setNow_idleFlag (s : State) (t : Nat) : (s.setNow t).idleFlag = s.idleFlag := rfl
@[simp] theorem State.setNow_initialised (s : State) (t : Nat) : (s.setNow t).initialised = s.initialised := rfl
@[simp] theorem State.setNow_linkOpen (s : State) (t : Nat) : (s.setNow t).linkOpen = s.linkOpen := rfl
@[simp] theorem State.setNow_rx (s : State) (t : Nat) : (s.setNow t).rx = s.rx := rfl
@[simp] theorem State.setNow_now (s : State) (t : Nat) : (s.setNow t).now = t := rfl
@[simp] theorem State.setNow_agenda (s : State) (t : Nat) : (s.setNow t).agenda = s.agenda := rfl
@[simp] theorem State.setNow_stop (s : State) (t : Nat) : (s.setNow t).stop = s.stop := rfl
@[simp] theorem State.setNow_result (s : State) (t : Nat) : (s.setNow t).result = s.result := rfl
@[simp] theorem State.setNow_freeCount (s : State) (t : Nat) : (s.setNow t).freeCount = s.freeCount := rfl

/-! ### recordActivity -/

@[simp] theorem State.recordActivity_cfg (s : State) : (s.recordActivity).cfg = s.cfg := rfl
@[simp] theorem State.recordActivity_state (s : State) : (s.recordActivity).state = s.state := rfl
@[simp] theorem State.recordActivity_cursor (s : State) : (s.recordActivity).cursor = s.cursor := rfl
@[simp] theorem State.recordActivity_offset (s : State) : (s.recordActivity).offset = s.offset := rfl
@[simp] theorem State.recordActivity_capacity (s : State) : (s.recordActivity).capacity = s.capacity := rfl
@[simp] theorem State.recordActivity_buf (s : State) : (s.recordActivity).buf = s.buf := rfl
@[simp] theorem State.recordActivity_spOpcodeHold (s : State) : (s.recordActivity).spOpcodeHold = s.spOpcodeHold := rfl
@[simp] theorem State.recordActivity_spOpcode (s : State) : (s.recordActivity).spOpcode = s.spOpcode := rfl
@[simp] theorem State.recordActivity_spData (s : State) : (s.recordActivity).spData = s.spData := rfl
@[simp] theorem State.recordActivity_spPending (s : State) : (s.recordActivity).spPending = s.spPending := rfl
@[simp] theorem State.recordActivity_lastActivity (s : State) : (s.recordActivity).lastActivity = s.sampleNow := rfl
@[simp] theorem State.recordActivity_timeout (s : State) : (s.recordActivity).timeout = s.timeout := rfl
@[simp] theorem State.recordActivity_idleFlag (s : State) : (s.recordActivity).idleFlag = false := rfl
@[simp] theorem State.recordActivity_initialised (s : State) : (s.recordActivity).initialised = s.initialised := rfl
@[simp] theorem State.recordActivity_linkOpen (s : State) : (s.recordActivity).linkOpen = s.linkOpen := rfl
@[simp] theorem State.recordActivity_rx (s : State) : (s.recordActivity).rx = s.rx := rfl
@[simp] theorem State.recordActivity_now (s : State) : (s.recordActivity).now = s.now := rfl
@[simp] theorem State.recordActivity_agenda (s : State) : (s.recordActivity).agenda = s.agenda := rfl
@[simp] theorem State.recordActivity_stop (s : State) : (s.recordActivity).stop = s.stop := rfl
@[simp] theorem State.recordActivity_result (s : State) : (s.recordActivity).result = s.result := rfl
@[simp] theorem State.recordActivity_freeCount (s : State) : (s.recordActivity).freeCount = s.freeCount := rfl

/-! ### latchIdle -/

@[simp] theorem State.latchIdle_cfg (s : State) : (s.latchIdle).cfg = s.cfg := rfl
@[simp] theorem State.latchIdle_state (s : State) : (s.latchIdle).state = s.state := rfl
@[simp] theorem State.latchIdle_cursor (s : State) : (s.latchIdle).cursor = s.cursor := rfl
@[simp] theorem State.latchIdle_offset (s : State) : (s.latchIdle).offset = s.offset := rfl
@[simp] theorem State.latchIdle_capacity (s : State) : (s.latchIdle).capacity = s.capacity := rfl
@[simp] theorem State.latchIdle_buf (s : State) : (s.latchIdle).buf = s.buf := rfl
@[simp] theorem State.latchIdle_spOpcodeHold (s : State) : (s.latchIdle).spOpcodeHold = s.spOpcodeHold := rfl
@[simp] theorem State.latchIdle_spOpcode (s : State) : (s.latchIdle).spOpcode = s.spOpcode := rfl
@[simp] theorem State.latchIdle_spData (s : State) : (s.latchIdle).spData = s.spData := rfl
@[simp] theorem State.latchIdle_spPending (s : State) : (s.latchIdle).spPending = s.spPending := rfl
@[simp] theorem State.latchIdle_lastActivity (s : State) : (s.latchIdle).lastActivity = s.lastActivity := rfl
@[simp] theorem State.latchIdle_timeout (s : State) : (s.latchIdle).timeout = s.timeout := rfl
@[simp] theorem State.latchIdle_idleFlag (s : State) : (s.latchIdle).idleFlag = s.idleAnswer := rfl
@[simp] theorem State.latchIdle_initialised (s : State) : (s.latchIdle).initialised = s.initialised := rfl
@[simp] theorem State.latchIdle_linkOpen (s : State) : (s.latchIdle).linkOpen = s.linkOpen := rfl
@[simp] theorem State.latchIdle_rx (s : State) : (s.latchIdle).rx = s.rx := rfl
@[simp] theorem State.latchIdle_now (s : State) : (s.latchIdle).now = s.now := rfl
@[simp] theorem State.latchIdle_agenda (s : State) : (s.latchIdle).agenda = s.agenda := rfl
@[simp] theorem State.latchIdle_stop (s : State) : (s.latchIdle).stop = s.stop := rfl
@[simp] theorem State.latchIdle_result (s : State) : (s.latchIdle).result = s.result := rfl
@[simp] theorem State.latchIdle_freeCount (s : State) : (s.latchIdle).freeCount = s.freeCount := rfl

end Sys2Proof.Machine
end

