-- ==== Sys2Proof/Laws/Ops.lean ====
section
/-!
SUPPORT. What each shared operation can do, said once: abandoning and restarting a frame, the window, the advance, the
address-write step, the completion of a special command, the gate before the first INIT.
-/

namespace Sys2Proof.Machine

/-! ## The gate -/

/-- An instruction run behind the gate answers a next state exactly after the first INIT, and then the one given. -/
theorem afterInit_eq_next {s t u : State} : afterInit s t = .next u ↔ s.initialised = true ∧ t = u := by
  unfold afterInit; split <;> simp_all

theorem afterInit_of_initialised {s : State} (h : s.initialised = true) (t : State) : afterInit s t = .next t := by
  simp [afterInit, h]

theorem afterInit_of_not {s : State} (h : s.initialised = false) (t : State) :
    afterInit s t = .refused .notInitialised := by
  simp [afterInit, h]

/-! ## Reading an entry -/

/-- A read depends on the capacity and the register file alone. -/
theorem State.readEntry_congr {s t : State} (hc : t.capacity = s.capacity) (hb : t.buf = s.buf) (i : Nat) :
    t.readEntry i = s.readEntry i := by
  unfold State.readEntry; rw [hc, hb]

theorem State.readEntry_of_lt {s : State} {i : Nat} (h : i < s.capacity) : s.readEntry i = s.buf.read i := if_pos h

theorem State.readEntry_of_ge {s : State} {i : Nat} (h : s.capacity ≤ i) : s.readEntry i = 0#8 :=
  if_neg (Nat.not_lt.2 h)

/-! ## Abandoning and restarting a frame: only `state` changes -/

@[simp] theorem State.abortFrame_state (s : State) (st : DecState) : (s.abortFrame st).state = st := rfl
@[simp] theorem State.restartFrame_state (s : State) : s.restartFrame.state = .command := rfl
@[simp] theorem State.abortFrame_cfg (s : State) (st : DecState) : (s.abortFrame st).cfg = s.cfg := rfl
@[simp] theorem State.abortFrame_cursor (s : State) (st : DecState) : (s.abortFrame st).cursor = s.cursor := rfl
@[simp] theorem State.abortFrame_offset (s : State) (st : DecState) : (s.abortFrame st).offset = s.offset := rfl
@[simp] theorem State.abortFrame_capacity (s : State) (st : DecState) : (s.abortFrame st).capacity = s.capacity := rfl
@[simp] theorem State.abortFrame_buf (s : State) (st : DecState) : (s.abortFrame st).buf = s.buf := rfl
@[simp] theorem State.abortFrame_spOpcodeHold (s : State) (st : DecState) : (s.abortFrame st).spOpcodeHold = s.spOpcodeHold := rfl
@[simp] theorem State.abortFrame_spOpcode (s : State) (st : DecState) : (s.abortFrame st).spOpcode = s.spOpcode := rfl
@[simp] theorem State.abortFrame_spData (s : State) (st : DecState) : (s.abortFrame st).spData = s.spData := rfl
@[simp] theorem State.abortFrame_spPending (s : State) (st : DecState) : (s.abortFrame st).spPending = s.spPending := rfl
@[simp] theorem State.abortFrame_lastActivity (s : State) (st : DecState) : (s.abortFrame st).lastActivity = s.lastActivity := rfl
@[simp] theorem State.abortFrame_timeout (s : State) (st : DecState) : (s.abortFrame st).timeout = s.timeout := rfl
@[simp] theorem State.abortFrame_idleFlag (s : State) (st : DecState) : (s.abortFrame st).idleFlag = s.idleFlag := rfl
@[simp] theorem State.abortFrame_initialised (s : State) (st : DecState) : (s.abortFrame st).initialised = s.initialised := rfl
@[simp] theorem State.abortFrame_linkOpen (s : State) (st : DecState) : (s.abortFrame st).linkOpen = s.linkOpen := rfl
@[simp] theorem State.abortFrame_rx (s : State) (st : DecState) : (s.abortFrame st).rx = s.rx := rfl
@[simp] theorem State.abortFrame_now (s : State) (st : DecState) : (s.abortFrame st).now = s.now := rfl
@[simp] theorem State.abortFrame_agenda (s : State) (st : DecState) : (s.abortFrame st).agenda = s.agenda := rfl
@[simp] theorem State.abortFrame_stop (s : State) (st : DecState) : (s.abortFrame st).stop = s.stop := rfl
@[simp] theorem State.abortFrame_result (s : State) (st : DecState) : (s.abortFrame st).result = s.result := rfl
@[simp] theorem State.abortFrame_freeCount (s : State) (st : DecState) : (s.abortFrame st).freeCount = s.freeCount := rfl
@[simp] theorem State.restartFrame_cfg (s : State) : s.restartFrame.cfg = s.cfg := rfl
@[simp] theorem State.restartFrame_cursor (s : State) : s.restartFrame.cursor = s.cursor := rfl
@[simp] theorem State.restartFrame_offset (s : State) : s.restartFrame.offset = s.offset := rfl
@[simp] theorem State.restartFrame_capacity (s : State) : s.restartFrame.capacity = s.capacity := rfl
@[simp] theorem State.restartFrame_buf (s : State) : s.restartFrame.buf = s.buf := rfl
@[simp] theorem State.restartFrame_spOpcodeHold (s : State) : s.restartFrame.spOpcodeHold = s.spOpcodeHold := rfl
@[simp] theorem State.restartFrame_spOpcode (s : State) : s.restartFrame.spOpcode = s.spOpcode := rfl
@[simp] theorem State.restartFrame_spData (s : State) : s.restartFrame.spData = s.spData := rfl
@[simp] theorem State.restartFrame_spPending (s : State) : s.restartFrame.spPending = s.spPending := rfl
@[simp] theorem State.restartFrame_lastActivity (s : State) : s.restartFrame.lastActivity = s.lastActivity := rfl
@[simp] theorem State.restartFrame_timeout (s : State) : s.restartFrame.timeout = s.timeout := rfl
@[simp] theorem State.restartFrame_idleFlag (s : State) : s.restartFrame.idleFlag = s.idleFlag := rfl
@[simp] theorem State.restartFrame_initialised (s : State) : s.restartFrame.initialised = s.initialised := rfl
@[simp] theorem State.restartFrame_linkOpen (s : State) : s.restartFrame.linkOpen = s.linkOpen := rfl
@[simp] theorem State.restartFrame_rx (s : State) : s.restartFrame.rx = s.rx := rfl
@[simp] theorem State.restartFrame_now (s : State) : s.restartFrame.now = s.now := rfl
@[simp] theorem State.restartFrame_agenda (s : State) : s.restartFrame.agenda = s.agenda := rfl
@[simp] theorem State.restartFrame_stop (s : State) : s.restartFrame.stop = s.stop := rfl
@[simp] theorem State.restartFrame_result (s : State) : s.restartFrame.result = s.result := rfl
@[simp] theorem State.restartFrame_freeCount (s : State) : s.restartFrame.freeCount = s.freeCount := rfl

/-! ## The completion of a special command -/

@[simp] theorem State.completeSpecial_state (s : State) (d : Byte) : (s.completeSpecial d).state = .init := rfl
@[simp] theorem State.completeSpecial_spOpcode (s : State) (d : Byte) :
    (s.completeSpecial d).spOpcode = s.spOpcodeHold := rfl
@[simp] theorem State.completeSpecial_spData (s : State) (d : Byte) : (s.completeSpecial d).spData = d := rfl
@[simp] theorem State.completeSpecial_spPending (s : State) (d : Byte) : (s.completeSpecial d).spPending = true := rfl
@[simp] theorem State.completeSpecial_stop (s : State) (d : Byte) : (s.completeSpecial d).stop = true := rfl
@[simp] theorem State.completeSpecial_cfg (s : State) (d : Byte) : (s.completeSpecial d).cfg = s.cfg := rfl
@[simp] theorem State.completeSpecial_cursor (s : State) (d : Byte) : (s.completeSpecial d).cursor = s.cursor := rfl
@[simp] theorem State.completeSpecial_offset (s : State) (d : Byte) : (s.completeSpecial d).offset = s.offset := rfl
@[simp] theorem State.completeSpecial_capacity (s : State) (d : Byte) : (s.completeSpecial d).capacity = s.capacity := rfl
@[simp] theorem State.completeSpecial_buf (s : State) (d : Byte) : (s.completeSpecial d).buf = s.buf := rfl
@[simp] theorem State.completeSpecial_spOpcodeHold (s : State) (d : Byte) : (s.completeSpecial d).spOpcodeHold = s.spOpcodeHold := rfl
@[simp] theorem State.completeSpecial_lastActivity (s : State) (d : Byte) : (s.completeSpecial d).lastActivity = s.lastActivity := rfl
@[simp] theorem State.completeSpecial_timeout (s : State) (d : Byte) : (s.completeSpecial d).timeout = s.timeout := rfl
@[simp] theorem State.completeSpecial_idleFlag (s : State) (d : Byte) : (s.completeSpecial d).idleFlag = s.idleFlag := rfl
@[simp] theorem State.completeSpecial_initialised (s : State) (d : Byte) : (s.completeSpecial d).initialised = s.initialised := rfl
@[simp] theorem State.completeSpecial_linkOpen (s : State) (d : Byte) : (s.completeSpecial d).linkOpen = s.linkOpen := rfl
@[simp] theorem State.completeSpecial_rx (s : State) (d : Byte) : (s.completeSpecial d).rx = s.rx := rfl
@[simp] theorem State.completeSpecial_now (s : State) (d : Byte) : (s.completeSpecial d).now = s.now := rfl
@[simp] theorem State.completeSpecial_agenda (s : State) (d : Byte) : (s.completeSpecial d).agenda = s.agenda := rfl
@[simp] theorem State.completeSpecial_result (s : State) (d : Byte) : (s.completeSpecial d).result = s.result := rfl
@[simp] theorem State.completeSpecial_freeCount (s : State) (d : Byte) : (s.completeSpecial d).freeCount = s.freeCount := rfl

/-! ## The window -/

theorem windowPlace_eq_below {o n a : Nat} : windowPlace o n a = .below ↔ a < o := by
  unfold windowPlace; split
  · simp_all
  · split <;> simp_all

theorem windowPlace_eq_inside {o n a i : Nat} :
    windowPlace o n a = .inside i ↔ o ≤ a ∧ i = a - o ∧ a - o < n := by
  unfold windowPlace; split
  · simp; omega
  · split
    · simp only [WindowPlace.inside.injEq]; omega
    · simp; omega

theorem windowPlace_eq_above {o n a : Nat} : windowPlace o n a = .above ↔ o ≤ a ∧ n ≤ a - o := by
  unfold windowPlace; split
  · simp; omega
  · split
    · simp; omega
    · simp; omega

/-! ## The advance -/

/-- The advance completes the frame at `MAX_ADDRESS` and otherwise moves the cursor on by one. -/
theorem State.advanceCursor_cases (s : State) :
    (s.cursor = s.cfg.maxAddress ∧ s.advanceCursor = s.setState .complete) ∨
    (s.cursor ≠ s.cfg.maxAddress ∧ s.advanceCursor = (s.setCursor (s.cursor + 1)).setState .data) := by
  unfold State.advanceCursor; split
  · exact .inl ⟨‹_›, rfl⟩
  · exact .inr ⟨‹_›, rfl⟩

@[simp] theorem State.advanceCursor_cfg (s : State) : s.advanceCursor.cfg = s.cfg := by
  unfold State.advanceCursor; split <;> rfl
@[simp] theorem State.advanceCursor_offset (s : State) : s.advanceCursor.offset = s.offset := by
  unfold State.advanceCursor; split <;> rfl
@[simp] theorem State.advanceCursor_capacity (s : State) : s.advanceCursor.capacity = s.capacity := by
  unfold State.advanceCursor; split <;> rfl
@[simp] theorem State.advanceCursor_buf (s : State) : s.advanceCursor.buf = s.buf := by
  unfold State.advanceCursor; split <;> rfl
@[simp] theorem State.advanceCursor_spOpcodeHold (s : State) : s.advanceCursor.spOpcodeHold = s.spOpcodeHold := by
  unfold State.advanceCursor; split <;> rfl
@[simp] theorem State.advanceCursor_spOpcode (s : State) : s.advanceCursor.spOpcode = s.spOpcode := by
  unfold State.advanceCursor; split <;> rfl
@[simp] theorem State.advanceCursor_spData (s : State) : s.advanceCursor.spData = s.spData := by
  unfold State.advanceCursor; split <;> rfl
@[simp] theorem State.advanceCursor_spPending (s : State) : s.advanceCursor.spPending = s.spPending := by
  unfold State.advanceCursor; split <;> rfl
@[simp] theorem State.advanceCursor_lastActivity (s : State) : s.advanceCursor.lastActivity = s.lastActivity := by
  unfold State.advanceCursor; split <;> rfl
@[simp] theorem State.advanceCursor_timeout (s : State) : s.advanceCursor.timeout = s.timeout := by
  unfold State.advanceCursor; split <;> rfl
@[simp] theorem State.advanceCursor_idleFlag (s : State) : s.advanceCursor.idleFlag = s.idleFlag := by
  unfold State.advanceCursor; split <;> rfl
@[simp] theorem State.advanceCursor_initialised (s : State) : s.advanceCursor.initialised = s.initialised := by
  unfold State.advanceCursor; split <;> rfl
@[simp] theorem State.advanceCursor_linkOpen (s : State) : s.advanceCursor.linkOpen = s.linkOpen := by
  unfold State.advanceCursor; split <;> rfl
@[simp] theorem State.advanceCursor_rx (s : State) : s.advanceCursor.rx = s.rx := by
  unfold State.advanceCursor; split <;> rfl
@[simp] theorem State.advanceCursor_now (s : State) : s.advanceCursor.now = s.now := by
  unfold State.advanceCursor; split <;> rfl
@[simp] theorem State.advanceCursor_agenda (s : State) : s.advanceCursor.agenda = s.agenda := by
  unfold State.advanceCursor; split <;> rfl
@[simp] theorem State.advanceCursor_stop (s : State) : s.advanceCursor.stop = s.stop := by
  unfold State.advanceCursor; split <;> rfl
@[simp] theorem State.advanceCursor_result (s : State) : s.advanceCursor.result = s.result := by
  unfold State.advanceCursor; split <;> rfl
@[simp] theorem State.advanceCursor_freeCount (s : State) : s.advanceCursor.freeCount = s.freeCount := by
  unfold State.advanceCursor; split <;> rfl

/-! ## The address-write step -/

/-- The three cases of R86. -/
theorem State.addressWrite_cases (s : State) (v : Byte) :
    (s.cursor < s.offset ∧ s.addressWrite v = s.advanceCursor) ∨
    (s.offset ≤ s.cursor ∧ s.cursor - s.offset < s.capacity ∧
      s.addressWrite v = ((s.storeEntry (s.cursor - s.offset) v).recordActivity).advanceCursor) ∨
    (s.offset ≤ s.cursor ∧ s.capacity ≤ s.cursor - s.offset ∧ s.addressWrite v = s.setState .complete) := by
  unfold State.addressWrite
  cases h : s.cursorPlace with
  | below => exact .inl ⟨windowPlace_eq_below.1 h, rfl⟩
  | inside i =>
    obtain ⟨h1, rfl, h2⟩ := windowPlace_eq_inside.1 h
    exact .inr (.inl ⟨h1, h2, rfl⟩)
  | above =>
    obtain ⟨h1, h2⟩ := windowPlace_eq_above.1 h
    exact .inr (.inr ⟨h1, h2, rfl⟩)

@[simp] theorem State.addressWrite_cfg (s : State) (v : Byte) : (s.addressWrite v).cfg = s.cfg := by
  unfold State.addressWrite; split <;> simp
@[simp] theorem State.addressWrite_offset (s : State) (v : Byte) : (s.addressWrite v).offset = s.offset := by
  unfold State.addressWrite; split <;> simp
@[simp] theorem State.addressWrite_capacity (s : State) (v : Byte) : (s.addressWrite v).capacity = s.capacity := by
  unfold State.addressWrite; split <;> simp
@[simp] theorem State.addressWrite_spOpcodeHold (s : State) (v : Byte) : (s.addressWrite v).spOpcodeHold = s.spOpcodeHold := by
  unfold State.addressWrite; split <;> simp
@[simp] theorem State.addressWrite_spOpcode (s : State) (v : Byte) : (s.addressWrite v).spOpcode = s.spOpcode := by
  unfold State.addressWrite; split <;> simp
@[simp] theorem State.addressWrite_spData (s : State) (v : Byte) : (s.addressWrite v).spData = s.spData := by
  unfold State.addressWrite; split <;> simp
@[simp] theorem State.addressWrite_spPending (s : State) (v : Byte) : (s.addressWrite v).spPending = s.spPending := by
  unfold State.addressWrite; split <;> simp
@[simp] theorem State.addressWrite_timeout (s : State) (v : Byte) : (s.addressWrite v).timeout = s.timeout := by
  unfold State.addressWrite; split <;> simp
@[simp] theorem State.addressWrite_initialised (s : State) (v : Byte) : (s.addressWrite v).initialised = s.initialised := by
  unfold State.addressWrite; split <;> simp
@[simp] theorem State.addressWrite_linkOpen (s : State) (v : Byte) : (s.addressWrite v).linkOpen = s.linkOpen := by
  unfold State.addressWrite; split <;> simp
@[simp] theorem State.addressWrite_rx (s : State) (v : Byte) : (s.addressWrite v).rx = s.rx := by
  unfold State.addressWrite; split <;> simp
@[simp] theorem State.addressWrite_now (s : State) (v : Byte) : (s.addressWrite v).now = s.now := by
  unfold State.addressWrite; split <;> simp
@[simp] theorem State.addressWrite_agenda (s : State) (v : Byte) : (s.addressWrite v).agenda = s.agenda := by
  unfold State.addressWrite; split <;> simp
@[simp] theorem State.addressWrite_stop (s : State) (v : Byte) : (s.addressWrite v).stop = s.stop := by
  unfold State.addressWrite; split <;> simp
@[simp] theorem State.addressWrite_result (s : State) (v : Byte) : (s.addressWrite v).result = s.result := by
  unfold State.addressWrite; split <;> simp
@[simp] theorem State.addressWrite_freeCount (s : State) (v : Byte) : (s.addressWrite v).freeCount = s.freeCount := by
  unfold State.addressWrite; split <;> simp

/-- The output `stop` plays no part in the address-write step. -/
theorem State.addressWrite_setStop (s : State) (v : Byte) (b : Bool) :
    (s.setStop b).addressWrite v = (s.addressWrite v).setStop b := by
  have ha : ∀ u : State, (u.setStop b).advanceCursor = u.advanceCursor.setStop b := by
    intro u
    unfold State.advanceCursor
    rw [State.setStop_cursor, State.setStop_cfg]
    split <;> rfl
  unfold State.addressWrite
  rw [show (s.setStop b).cursorPlace = s.cursorPlace from rfl]
  split
  · exact ha s
  · exact ha ((s.storeEntry _ v).recordActivity)
  · rfl

end Sys2Proof.Machine
end

