-- ==== Sys2Proof/Laws/Wire.lean ====
section
/-!
SUPPORT. What one step on a byte leaves unchanged, and the induction over the feed loop: what every byte keeps, every feed
keeps.
-/

namespace Sys2Proof.Machine

/-! ## The rows of the wire: what none of them writes -/

@[simp] theorem wireEffect_cfg (i : Instr) (s : State) : (wireEffect i s).cfg = s.cfg := by
  cases i <;> try rfl
  case cmdCh k => simp only [wireEffect, cmdChEffect]; split <;> rfl
  case dataLit v => simp [wireEffect, dataLitEffect]
  case escVal x => simp [wireEffect, escValEffect]
@[simp] theorem stepByte_cfg (b : Byte) (s : State) : (stepByte b s).cfg = s.cfg := wireEffect_cfg _ s
@[simp] theorem wireEffect_offset (i : Instr) (s : State) : (wireEffect i s).offset = s.offset := by
  cases i <;> try rfl
  case cmdCh k => simp only [wireEffect, cmdChEffect]; split <;> rfl
  case dataLit v => simp [wireEffect, dataLitEffect]
  case escVal x => simp [wireEffect, escValEffect]
@[simp] theorem stepByte_offset (b : Byte) (s : State) : (stepByte b s).offset = s.offset := wireEffect_offset _ s
@[simp] theorem wireEffect_capacity (i : Instr) (s : State) : (wireEffect i s).capacity = s.capacity := by
  cases i <;> try rfl
  case cmdCh k => simp only [wireEffect, cmdChEffect]; split <;> rfl
  case dataLit v => simp [wireEffect, dataLitEffect]
  case escVal x => simp [wireEffect, escValEffect]
@[simp] theorem stepByte_capacity (b : Byte) (s : State) : (stepByte b s).capacity = s.capacity := wireEffect_capacity _ s
@[simp] theorem wireEffect_timeout (i : Instr) (s : State) : (wireEffect i s).timeout = s.timeout := by
  cases i <;> try rfl
  case cmdCh k => simp only [wireEffect, cmdChEffect]; split <;> rfl
  case dataLit v => simp [wireEffect, dataLitEffect]
  case escVal x => simp [wireEffect, escValEffect]
@[simp] theorem stepByte_timeout (b : Byte) (s : State) : (stepByte b s).timeout = s.timeout := wireEffect_timeout _ s
@[simp] theorem wireEffect_initialised (i : Instr) (s : State) : (wireEffect i s).initialised = s.initialised := by
  cases i <;> try rfl
  case cmdCh k => simp only [wireEffect, cmdChEffect]; split <;> rfl
  case dataLit v => simp [wireEffect, dataLitEffect]
  case escVal x => simp [wireEffect, escValEffect]
@[simp] theorem stepByte_initialised (b : Byte) (s : State) : (stepByte b s).initialised = s.initialised := wireEffect_initialised _ s
@[simp] theorem wireEffect_linkOpen (i : Instr) (s : State) : (wireEffect i s).linkOpen = s.linkOpen := by
  cases i <;> try rfl
  case cmdCh k => simp only [wireEffect, cmdChEffect]; split <;> rfl
  case dataLit v => simp [wireEffect, dataLitEffect]
  case escVal x => simp [wireEffect, escValEffect]
@[simp] theorem stepByte_linkOpen (b : Byte) (s : State) : (stepByte b s).linkOpen = s.linkOpen := wireEffect_linkOpen _ s
@[simp] theorem wireEffect_rx (i : Instr) (s : State) : (wireEffect i s).rx = s.rx := by
  cases i <;> try rfl
  case cmdCh k => simp only [wireEffect, cmdChEffect]; split <;> rfl
  case dataLit v => simp [wireEffect, dataLitEffect]
  case escVal x => simp [wireEffect, escValEffect]
@[simp] theorem stepByte_rx (b : Byte) (s : State) : (stepByte b s).rx = s.rx := wireEffect_rx _ s
@[simp] theorem wireEffect_now (i : Instr) (s : State) : (wireEffect i s).now = s.now := by
  cases i <;> try rfl
  case cmdCh k => simp only [wireEffect, cmdChEffect]; split <;> rfl
  case dataLit v => simp [wireEffect, dataLitEffect]
  case escVal x => simp [wireEffect, escValEffect]
@[simp] theorem stepByte_now (b : Byte) (s : State) : (stepByte b s).now = s.now := wireEffect_now _ s
@[simp] theorem wireEffect_agenda (i : Instr) (s : State) : (wireEffect i s).agenda = s.agenda := by
  cases i <;> try rfl
  case cmdCh k => simp only [wireEffect, cmdChEffect]; split <;> rfl
  case dataLit v => simp [wireEffect, dataLitEffect]
  case escVal x => simp [wireEffect, escValEffect]
@[simp] theorem stepByte_agenda (b : Byte) (s : State) : (stepByte b s).agenda = s.agenda := wireEffect_agenda _ s
@[simp] theorem wireEffect_result (i : Instr) (s : State) : (wireEffect i s).result = s.result := by
  cases i <;> try rfl
  case cmdCh k => simp only [wireEffect, cmdChEffect]; split <;> rfl
  case dataLit v => simp [wireEffect, dataLitEffect]
  case escVal x => simp [wireEffect, escValEffect]
@[simp] theorem stepByte_result (b : Byte) (s : State) : (stepByte b s).result = s.result := wireEffect_result _ s
@[simp] theorem wireEffect_freeCount (i : Instr) (s : State) : (wireEffect i s).freeCount = s.freeCount := by
  cases i <;> try rfl
  case cmdCh k => simp only [wireEffect, cmdChEffect]; split <;> rfl
  case dataLit v => simp [wireEffect, dataLitEffect]
  case escVal x => simp [wireEffect, escValEffect]
@[simp] theorem stepByte_freeCount (b : Byte) (s : State) : (stepByte b s).freeCount = s.freeCount := wireEffect_freeCount _ s

/-- A row of the wire runs its effect behind the gate: the loop of a feed runs the same effects as `exec`. -/
theorem exec_eq_wireEffect {i : Instr} (h : isWire i = true) (s : State) :
    exec i s = afterInit s (wireEffect i s) := by
  cases i <;> first | rfl | simp [isWire] at h

/-! ## The feed loop -/

/-- What every byte keeps, the loop keeps. -/
theorem feedLoop_keeps {P : State → Prop}
    (hstep : ∀ (s : State) (x : RxByte) (rest : List RxByte), P s → P (stepByte x.byte (s.takeByte x rest))) :
    ∀ (xs : List RxByte) (c : Bool) (s : State), P s → P (feedLoop xs c s).1
  | [], _, _, h => h
  | x :: rest, c, s, h => by
    unfold feedLoop
    dsimp only
    split
    · exact hstep s x rest h
    · exact feedLoop_keeps hstep rest true _ (hstep s x rest h)

/-- What every byte keeps, `feed-available-bytes` keeps. -/
theorem feedAvailable_keeps {P : State → Prop}
    (hstep : ∀ (s : State) (x : RxByte) (rest : List RxByte), P s → P (stepByte x.byte (s.takeByte x rest)))
    {s : State} (h : P s) : P (feedAvailable s).1 := by
  unfold feedAvailable; split
  · exact feedLoop_keeps hstep _ _ _ h
  · exact h

/-- What every byte keeps, an optional feed keeps. -/
theorem pumpIf_keeps {P : State → Prop}
    (hstep : ∀ (s : State) (x : RxByte) (rest : List RxByte), P s → P (stepByte x.byte (s.takeByte x rest)))
    {s : State} (pump : Bool) (h : P s) : P (pumpIf pump s) := by
  unfold pumpIf; split
  · exact feedAvailable_keeps hstep h
  · exact h

@[simp] theorem feedAvailable_cfg (s : State) : (feedAvailable s).1.cfg = s.cfg :=
  feedAvailable_keeps (P := fun t => t.cfg = s.cfg) (fun _ _ _ h => by simpa using h) rfl
@[simp] theorem pumpIf_cfg (p : Bool) (s : State) : (pumpIf p s).cfg = s.cfg :=
  pumpIf_keeps (P := fun t => t.cfg = s.cfg) (fun _ _ _ h => by simpa using h) p rfl
@[simp] theorem feedAvailable_offset (s : State) : (feedAvailable s).1.offset = s.offset :=
  feedAvailable_keeps (P := fun t => t.offset = s.offset) (fun _ _ _ h => by simpa using h) rfl
@[simp] theorem pumpIf_offset (p : Bool) (s : State) : (pumpIf p s).offset = s.offset :=
  pumpIf_keeps (P := fun t => t.offset = s.offset) (fun _ _ _ h => by simpa using h) p rfl
@[simp] theorem feedAvailable_capacity (s : State) : (feedAvailable s).1.capacity = s.capacity :=
  feedAvailable_keeps (P := fun t => t.capacity = s.capacity) (fun _ _ _ h => by simpa using h) rfl
@[simp] theorem pumpIf_capacity (p : Bool) (s : State) : (pumpIf p s).capacity = s.capacity :=
  pumpIf_keeps (P := fun t => t.capacity = s.capacity) (fun _ _ _ h => by simpa using h) p rfl
@[simp] theorem feedAvailable_timeout (s : State) : (feedAvailable s).1.timeout = s.timeout :=
  feedAvailable_keeps (P := fun t => t.timeout = s.timeout) (fun _ _ _ h => by simpa using h) rfl
@[simp] theorem pumpIf_timeout (p : Bool) (s : State) : (pumpIf p s).timeout = s.timeout :=
  pumpIf_keeps (P := fun t => t.timeout = s.timeout) (fun _ _ _ h => by simpa using h) p rfl
@[simp] theorem feedAvailable_initialised (s : State) : (feedAvailable s).1.initialised = s.initialised :=
  feedAvailable_keeps (P := fun t => t.initialised = s.initialised) (fun _ _ _ h => by simpa using h) rfl
@[simp] theorem pumpIf_initialised (p : Bool) (s : State) : (pumpIf p s).initialised = s.initialised :=
  pumpIf_keeps (P := fun t => t.initialised = s.initialised) (fun _ _ _ h => by simpa using h) p rfl
@[simp] theorem feedAvailable_linkOpen (s : State) : (feedAvailable s).1.linkOpen = s.linkOpen :=
  feedAvailable_keeps (P := fun t => t.linkOpen = s.linkOpen) (fun _ _ _ h => by simpa using h) rfl
@[simp] theorem pumpIf_linkOpen (p : Bool) (s : State) : (pumpIf p s).linkOpen = s.linkOpen :=
  pumpIf_keeps (P := fun t => t.linkOpen = s.linkOpen) (fun _ _ _ h => by simpa using h) p rfl
@[simp] theorem feedAvailable_agenda (s : State) : (feedAvailable s).1.agenda = s.agenda :=
  feedAvailable_keeps (P := fun t => t.agenda = s.agenda) (fun _ _ _ h => by simpa using h) rfl
@[simp] theorem pumpIf_agenda (p : Bool) (s : State) : (pumpIf p s).agenda = s.agenda :=
  pumpIf_keeps (P := fun t => t.agenda = s.agenda) (fun _ _ _ h => by simpa using h) p rfl
@[simp] theorem feedAvailable_result (s : State) : (feedAvailable s).1.result = s.result :=
  feedAvailable_keeps (P := fun t => t.result = s.result) (fun _ _ _ h => by simpa using h) rfl
@[simp] theorem pumpIf_result (p : Bool) (s : State) : (pumpIf p s).result = s.result :=
  pumpIf_keeps (P := fun t => t.result = s.result) (fun _ _ _ h => by simpa using h) p rfl
@[simp] theorem feedAvailable_freeCount (s : State) : (feedAvailable s).1.freeCount = s.freeCount :=
  feedAvailable_keeps (P := fun t => t.freeCount = s.freeCount) (fun _ _ _ h => by simpa using h) rfl
@[simp] theorem pumpIf_freeCount (p : Bool) (s : State) : (pumpIf p s).freeCount = s.freeCount :=
  pumpIf_keeps (P := fun t => t.freeCount = s.freeCount) (fun _ _ _ h => by simpa using h) p rfl

/-- With nothing available the loop changes nothing. -/
theorem feedAvailable_empty {s : State} (h : s.rx = []) : feedAvailable s = (s, false) := by
  unfold feedAvailable; split
  · rw [h]; rfl
  · rfl

/-- A closed byte source delivers nothing (R143). -/
theorem feedAvailable_closed {s : State} (h : s.linkOpen = false) : feedAvailable s = (s, false) := by
  simp [feedAvailable, h]

/-- The loop takes one byte, and goes on unless that step raised `stop` (R87). -/
theorem feedLoop_cons (x : RxByte) (rest : List RxByte) (c : Bool) (s : State) :
    feedLoop (x :: rest) c s =
      if (stepByte x.byte (s.takeByte x rest)).stop then (stepByte x.byte (s.takeByte x rest), true)
      else feedLoop rest true (stepByte x.byte (s.takeByte x rest)) := rfl

end Sys2Proof.Machine
end

