-- ==== Sys2Proof/Laws/Host.lean ====
section
/-!
SUPPORT. The state SET_OFFSET leaves the decoder in, what INIT leaves register by register, and what a wire row or a host
operation that answers a next state has run.
-/

namespace Sys2Proof.Machine

/-! ## Leaving a frame (R101) -/

/-- `Data` and `Escape` become `Init`; every other state stays. -/
theorem leaveFrame_state (s : State) :
    (leaveFrame s).state = if s.state = .data ∨ s.state = .escape then .init else s.state := by
  unfold leaveFrame
  split <;> simp [*]

@[simp] theorem leaveFrame_cfg (s : State) : (leaveFrame s).cfg = s.cfg := by
  unfold leaveFrame; split <;> rfl
@[simp] theorem leaveFrame_cursor (s : State) : (leaveFrame s).cursor = s.cursor := by
  unfold leaveFrame; split <;> rfl
@[simp] theorem leaveFrame_offset (s : State) : (leaveFrame s).offset = s.offset := by
  unfold leaveFrame; split <;> rfl
@[simp] theorem leaveFrame_capacity (s : State) : (leaveFrame s).capacity = s.capacity := by
  unfold leaveFrame; split <;> rfl
@[simp] theorem leaveFrame_buf (s : State) : (leaveFrame s).buf = s.buf := by
  unfold leaveFrame; split <;> rfl
@[simp] theorem leaveFrame_spOpcodeHold (s : State) : (leaveFrame s).spOpcodeHold = s.spOpcodeHold := by
  unfold leaveFrame; split <;> rfl
@[simp] theorem leaveFrame_spOpcode (s : State) : (leaveFrame s).spOpcode = s.spOpcode := by
  unfold leaveFrame; split <;> rfl
@[simp] theorem leaveFrame_spData (s : State) : (leaveFrame s).spData = s.spData := by
  unfold leaveFrame; split <;> rfl
@[simp] theorem leaveFrame_spPending (s : State) : (leaveFrame s).spPending = s.spPending := by
  unfold leaveFrame; split <;> rfl
@[simp] theorem leaveFrame_lastActivity (s : State) : (leaveFrame s).lastActivity = s.lastActivity := by
  unfold leaveFrame; split <;> rfl
@[simp] theorem leaveFrame_timeout (s : State) : (leaveFrame s).timeout = s.timeout := by
  unfold leaveFrame; split <;> rfl
@[simp] theorem leaveFrame_idleFlag (s : State) : (leaveFrame s).idleFlag = s.idleFlag := by
  unfold leaveFrame; split <;> rfl
@[simp] theorem leaveFrame_initialised (s : State) : (leaveFrame s).initialised = s.initialised := by
  unfold leaveFrame; split <;> rfl
@[simp] theorem leaveFrame_linkOpen (s : State) : (leaveFrame s).linkOpen = s.linkOpen := by
  unfold leaveFrame; split <;> rfl
@[simp] theorem leaveFrame_rx (s : State) : (leaveFrame s).rx = s.rx := by
  unfold leaveFrame; split <;> rfl
@[simp] theorem leaveFrame_now (s : State) : (leaveFrame s).now = s.now := by
  unfold leaveFrame; split <;> rfl
@[simp] theorem leaveFrame_agenda (s : State) : (leaveFrame s).agenda = s.agenda := by
  unfold leaveFrame; split <;> rfl
@[simp] theorem leaveFrame_stop (s : State) : (leaveFrame s).stop = s.stop := by
  unfold leaveFrame; split <;> rfl
@[simp] theorem leaveFrame_result (s : State) : (leaveFrame s).result = s.result := by
  unfold leaveFrame; split <;> rfl
@[simp] theorem leaveFrame_freeCount (s : State) : (leaveFrame s).freeCount = s.freeCount := by
  unfold leaveFrame; split <;> rfl

/-! ## Reset (R170) -/

@[simp] theorem State.initialise_cfg (s : State) (n : Nat) : (s.initialise n).cfg = s.cfg := rfl
@[simp] theorem State.initialise_state (s : State) (n : Nat) : (s.initialise n).state = .init := rfl
@[simp] theorem State.initialise_cursor (s : State) (n : Nat) : (s.initialise n).cursor = 0 := rfl
@[simp] theorem State.initialise_offset (s : State) (n : Nat) : (s.initialise n).offset = 0 := rfl
@[simp] theorem State.initialise_capacity (s : State) (n : Nat) : (s.initialise n).capacity = min n s.cfg.capMax := rfl
@[simp] theorem State.initialise_buf (s : State) (n : Nat) : (s.initialise n).buf = [] := rfl
@[simp] theorem State.initialise_spPending (s : State) (n : Nat) : (s.initialise n).spPending = false := rfl
@[simp] theorem State.initialise_lastActivity (s : State) (n : Nat) : (s.initialise n).lastActivity = s.cfg.rstLastActivity := rfl
@[simp] theorem State.initialise_timeout (s : State) (n : Nat) : (s.initialise n).timeout = s.cfg.rstTimeout := rfl
@[simp] theorem State.initialise_idleFlag (s : State) (n : Nat) : (s.initialise n).idleFlag = s.cfg.rstIdleFlag := rfl
@[simp] theorem State.initialise_initialised (s : State) (n : Nat) : (s.initialise n).initialised = true := rfl
@[simp] theorem State.initialise_linkOpen (s : State) (n : Nat) : (s.initialise n).linkOpen = true := rfl
@[simp] theorem State.initialise_rx (s : State) (n : Nat) : (s.initialise n).rx = s.rx := rfl
@[simp] theorem State.initialise_now (s : State) (n : Nat) : (s.initialise n).now = s.now := rfl
@[simp] theorem State.initialise_agenda (s : State) (n : Nat) : (s.initialise n).agenda = s.agenda := rfl
@[simp] theorem State.initialise_stop (s : State) (n : Nat) : (s.initialise n).stop = false := rfl
@[simp] theorem State.initialise_result (s : State) (n : Nat) : (s.initialise n).result = .none := rfl
@[simp] theorem State.initialise_freeCount (s : State) (n : Nat) : (s.initialise n).freeCount = s.freeCount + 3 := rfl
@[simp] theorem State.initialise_spOpcodeHold (s : State) (n : Nat) : (s.initialise n).spOpcodeHold = Config.freeByte s.freeCount := rfl
@[simp] theorem State.initialise_spOpcode (s : State) (n : Nat) : (s.initialise n).spOpcode = Config.freeByte (s.freeCount + 1) := rfl
@[simp] theorem State.initialise_spData (s : State) (n : Nat) : (s.initialise n).spData = Config.freeByte (s.freeCount + 2) := rfl

/-! ## What a next state of `exec` comes from -/

/-- An instruction other than INIT answers a next state only after the first INIT. -/
theorem initialised_of_exec_next {i : Instr} {s t : State} (h : exec i s = .next t) (hi : ∀ n, i ≠ .init n) :
    s.initialised = true := by
  cases i
  case init n => exact absurd rfl (hi n)
  all_goals exact (afterInit_eq_next.1 h).1

/-- A wire row answers its effect. -/
theorem eq_wireEffect_of_exec_next {i : Instr} {s t : State} (hw : isWire i = true) (h : exec i s = .next t) :
    t = wireEffect i s := by
  rw [exec_eq_wireEffect hw] at h
  exact (afterInit_eq_next.1 h).2.symm

/-- A byte selects a row of the wire. -/
theorem isWire_decodeByte (st : DecState) (b : Byte) : isWire (decodeByte st b) = true := by
  unfold decodeByte
  split
  · rfl
  · split
    · rfl
    · cases st <;> dsimp only <;> (repeat' split) <;> rfl

/-- The row a byte selects answers `Step`. -/
theorem exec_decodeByte (s : State) (b : Byte) : exec (decodeByte s.state b) s = afterInit s (stepByte b s) :=
  exec_eq_wireEffect (isWire_decodeByte _ _) s

end Sys2Proof.Machine
end

