-- ==== Sys2Proof/Laws/PerInstr.lean ====
section
/-!
SUPPORT. The per-instruction family `TableRow`: the word of a well-formed instruction matches the pattern that
spec/opcode_table.json gives its row.
-/

namespace Sys2Proof.Laws.TableRow

/-- The word of `i` is one the table's row for `i` admits. -/
def Statement (i : Instr) : Prop := ∀ c : Config, i.wf c = true → i.tableRow.admits (encode i) = true

/-- A channel command byte has bit 7 set, whatever its group number. -/
theorem channelByte_bit7 (k : BitVec 7) : channelByte k &&& 0x80#8 = 0x80#8 := by
  ext i hi
  simp only [channelByte, Config.minChannelByte, BitVec.getElem_and, BitVec.getElem_or]
  cases h : (0x80#8)[i] <;> simp

theorem pad : Statement .pad := fun _ _ => rfl

theorem start : Statement .start := fun _ _ => rfl

theorem initSkip (b : Byte) : Statement (.initSkip b) := fun _ _ => by simp [Instr.tableRow, encode, TableRow.admits]

theorem cmdCh0 : Statement .cmdCh0 := fun _ _ => rfl

theorem cmdCh (k : BitVec 7) : Statement (.cmdCh k) := by simp [Statement, Instr.tableRow, encode, TableRow.admits, channelByte_bit7]

theorem cmdSpecial : Statement .cmdSpecial := fun _ _ => rfl

theorem cmdUnk (b : Byte) : Statement (.cmdUnk b) := fun _ _ => by simp [Instr.tableRow, encode, TableRow.admits]

theorem dataEsc : Statement .dataEsc := fun _ _ => rfl

theorem dataLit (v : Byte) : Statement (.dataLit v) := fun _ _ => by simp [Instr.tableRow, encode, TableRow.admits]

theorem escVal (x : Byte) : Statement (.escVal x) := fun _ _ => by simp [Instr.tableRow, encode, TableRow.admits]

theorem spOpcode (op : Byte) : Statement (.spOpcode op) := fun _ _ => by simp [Instr.tableRow, encode, TableRow.admits]

theorem spEsc : Statement .spEsc := fun _ _ => rfl

theorem spData (d : Byte) : Statement (.spData d) := fun _ _ => by simp [Instr.tableRow, encode, TableRow.admits]

theorem spEscVal (x : Byte) : Statement (.spEscVal x) := fun _ _ => by simp [Instr.tableRow, encode, TableRow.admits]

theorem doneSkip (b : Byte) : Statement (.doneSkip b) := fun _ _ => by simp [Instr.tableRow, encode, TableRow.admits]

theorem init (n : Nat) : Statement (.init n) := fun _ _ => by simp [Instr.tableRow, encode, TableRow.admits]

theorem feed : Statement .feed := fun _ _ => rfl

theorem read (a : Nat) (p : Bool) : Statement (.read a p) := fun _ _ => by simp [Instr.tableRow, encode, TableRow.admits]

theorem setOffset (o : Nat) : Statement (.setOffset o) := fun _ _ => by simp [Instr.tableRow, encode, TableRow.admits]

theorem getOffset : Statement .getOffset := fun _ _ => rfl

theorem getCount : Statement .getCount := fun _ _ => rfl

theorem isIdle : Statement .isIdle := fun _ _ => rfl

theorem setTimeout (ms : Nat) : Statement (.setTimeout ms) := fun _ _ => by simp [Instr.tableRow, encode, TableRow.admits]

theorem getTimeout : Statement .getTimeout := fun _ _ => rfl

theorem spAvail (p : Bool) : Statement (.spAvail p) := fun _ _ => by simp [Instr.tableRow, encode, TableRow.admits]

theorem readSpOpcode : Statement .readSpOpcode := fun _ _ => rfl

theorem readSpData : Statement .readSpData := fun _ _ => rfl

theorem shutdown : Statement .shutdown := fun _ _ => rfl

end Sys2Proof.Laws.TableRow
end

