-- ==== Sys2Proof/Tests/Slice0.lean ====
section
/-!
SUPPORT. Small tests. Expected results are those of spec/95_test_vectors.md (the vector's name stands beside each), the words
are written out from R51, R58 and R63; and, for every statement with hypotheses, a state and operands that meet them.
-/

namespace Sys2Proof.Tests

open Sys2Proof.Machine

/-! ## The blocks the tests run on -/

/-- `ADDR_WIDTH = 8`, `TIME_WIDTH = 32`, as the vectors of spec/95 take it. -/
def cfg8 : Config := ⟨.w8, 512, 32, 1000, 0, false⟩

/-- `ADDR_WIDTH = 16`. -/
def cfg16 : Config := ⟨.w16, 512, 32, 1000, 0, false⟩

/-- The block after INIT(cap), with zeros where the spec leaves a byte unspecified. -/
def blank (c : Config) (cap : Nat) : State :=
  { State.resetWith c cap with spOpcodeHold := 0#8, spOpcode := 0#8, spData := 0#8 }

/-- Bytes all taken at time `t`. -/
def samples (t : Nat) (bs : List Byte) : List RxByte := bs.map (fun b => ⟨b, t⟩)

/-- The next state, if there is one. -/
def nextOf : Host.Outcome State Fault Refusal → Option State
  | .next t => some t
  | .fault _ => none
  | .refused _ => none

/-- One FEED, with `bs` in the byte source at time `t`. -/
def feeding (s : State) (t : Nat) (bs : List Byte) : Option State :=
  nextOf (step { s with rx := samples t bs, agenda := [.hostOp t ⟨1#4, 0, false⟩] })

/-- One host operation at time `t`. -/
def asking (s : State) (t : Nat) (r : OpRequest) : Option State :=
  nextOf (step { s with agenda := [.hostOp t r] })

/-- One FEED of one byte. -/
def byteAt (s : State) (t : Nat) (b : Byte) : Option State := feeding s t [b]

/-- The first `n` entries, as a host reads them. -/
def entries (n : Nat) (s : State) : List Byte := (List.range n).map s.readEntry

/-- The mailbox as spec/95 writes it. -/
def mailbox (s : State) : Byte × Byte × Bool := (s.spOpcode, s.spData, s.spPending)

/-- `state`, `cursor` and the first `n` entries. -/
def view (n : Nat) (s : State) : DecState × Nat × List Byte := (s.state, s.cursor, entries n s)

/-! ## Well-formedness refuses what the encoding does not admit -/

theorem test_wf_initSkip : (Instr.initSkip 0x7E#8).wf cfg8 = false ∧ (Instr.initSkip 0x7D#8).wf cfg8 = false ∧
    (Instr.initSkip 0x7F#8).wf cfg8 = true := by decide
theorem test_wf_cmdCh : (Instr.cmdCh 0#7).wf cfg8 = false ∧ (Instr.cmdCh 127#7).wf cfg8 = true := by decide
theorem test_wf_cmdUnk : (Instr.cmdUnk 0x7A#8).wf cfg8 = false ∧ (Instr.cmdUnk 0x80#8).wf cfg8 = false ∧
    (Instr.cmdUnk 0x7D#8).wf cfg8 = false ∧ (Instr.cmdUnk 0x7F#8).wf cfg8 = true := by decide
theorem test_wf_dataLit : (Instr.dataLit 0x7F#8).wf cfg8 = false ∧ (Instr.dataLit 0x7E#8).wf cfg8 = false ∧
    (Instr.dataLit 0x7A#8).wf cfg8 = true := by decide
theorem test_wf_escVal : (Instr.escVal 0x7D#8).wf cfg8 = false ∧ (Instr.escVal 0x7F#8).wf cfg8 = true := by decide
theorem test_wf_spOpcode : (Instr.spOpcode 0x7E#8).wf cfg8 = false ∧ (Instr.spOpcode 0x7F#8).wf cfg8 = true := by decide
theorem test_wf_spData : (Instr.spData 0x7F#8).wf cfg8 = false ∧ (Instr.spData 0x80#8).wf cfg8 = true := by decide
theorem test_wf_spEscVal : (Instr.spEscVal 0x7D#8).wf cfg8 = false ∧ (Instr.spEscVal 0x2F#8).wf cfg8 = true := by decide
theorem test_wf_doneSkip : (Instr.doneSkip 0x7E#8).wf cfg8 = false ∧ (Instr.doneSkip 0x80#8).wf cfg8 = true := by decide
theorem test_wf_init : (Instr.init 256).wf cfg8 = false ∧ (Instr.init 256).wf cfg16 = true := by decide
theorem test_wf_read : (Instr.read 256 true).wf cfg8 = false ∧ (Instr.read 255 true).wf cfg8 = true := by decide
theorem test_wf_setOffset : (Instr.setOffset 65536).wf cfg16 = false ∧ (Instr.setOffset 65535).wf cfg16 = true := by decide
theorem test_wf_setTimeout : (Instr.setTimeout 4294967296).wf cfg8 = false ∧
    (Instr.setTimeout 4294967295).wf cfg8 = true := by decide

/-! ## Decoding, one word per constructor: bytes from R51 and R58, operation ids from R63 -/

theorem test_decode_pad : decode cfg8 .escape (.byte 0b01111101#8) = .instr .pad := by decide
theorem test_decode_start : decode cfg8 .specialData (.byte 0b01111110#8) = .instr .start := by decide
theorem test_decode_initSkip : decode cfg8 .init (.byte 0b10000000#8) = .instr (.initSkip 0x80#8) := by decide
theorem test_decode_cmdCh0 : decode cfg8 .command (.byte 0b10000000#8) = .instr .cmdCh0 := by decide
theorem test_decode_cmdCh : decode cfg8 .command (.byte 0b10011111#8) = .instr (.cmdCh 31#7) := by decide
theorem test_decode_cmdSpecial : decode cfg8 .command (.byte 0b01111010#8) = .instr .cmdSpecial := by decide
theorem test_decode_cmdUnk : decode cfg8 .command (.byte 0b01111111#8) = .instr (.cmdUnk 0x7F#8) := by decide
theorem test_decode_dataEsc : decode cfg8 .data (.byte 0b01111111#8) = .instr .dataEsc := by decide
theorem test_decode_dataLit : decode cfg8 .data (.byte 0b01111010#8) = .instr (.dataLit 0x7A#8) := by decide
theorem test_decode_escVal : decode cfg8 .escape (.byte 0b01111111#8) = .instr (.escVal 0x7F#8) := by decide
theorem test_decode_spOpcode : decode cfg8 .specialOpcode (.byte 0b01111111#8) = .instr (.spOpcode 0x7F#8) := by decide
theorem test_decode_spEsc : decode cfg8 .specialData (.byte 0b01111111#8) = .instr .spEsc := by decide
theorem test_decode_spData : decode cfg8 .specialData (.byte 0b00010000#8) = .instr (.spData 0x10#8) := by decide
theorem test_decode_spEscVal : decode cfg8 .specialEscape (.byte 0b00101111#8) = .instr (.spEscVal 0x2F#8) := by decide
theorem test_decode_doneSkip : decode cfg8 .complete (.byte 0b01111111#8) = .instr (.doneSkip 0x7F#8) := by decide
theorem test_decode_init : decode cfg8 .init (.request ⟨0b0000#4, 200, false⟩) = .instr (.init 200) := by decide
theorem test_decode_feed : decode cfg8 .init (.request ⟨0b0001#4, 0, false⟩) = .instr .feed := by decide
theorem test_decode_read : decode cfg8 .init (.request ⟨0b0010#4, 255, true⟩) = .instr (.read 255 true) := by decide
theorem test_decode_setOffset : decode cfg8 .data (.request ⟨0b0011#4, 8, false⟩) = .instr (.setOffset 8) := by decide
theorem test_decode_getOffset : decode cfg8 .init (.request ⟨0b0100#4, 0, false⟩) = .instr .getOffset := by decide
theorem test_decode_getCount : decode cfg8 .init (.request ⟨0b0101#4, 0, false⟩) = .instr .getCount := by decide
theorem test_decode_isIdle : decode cfg8 .init (.request ⟨0b0110#4, 0, false⟩) = .instr .isIdle := by decide
theorem test_decode_setTimeout : decode cfg8 .init (.request ⟨0b0111#4, 2000, false⟩) = .instr (.setTimeout 2000) := by decide
theorem test_decode_getTimeout : decode cfg8 .init (.request ⟨0b1000#4, 0, false⟩) = .instr .getTimeout := by decide
theorem test_decode_spAvail : decode cfg8 .init (.request ⟨0b1001#4, 0, true⟩) = .instr (.spAvail true) := by decide
theorem test_decode_readSpOpcode : decode cfg8 .init (.request ⟨0b1010#4, 0, false⟩) = .instr .readSpOpcode := by decide
theorem test_decode_readSpData : decode cfg8 .init (.request ⟨0b1011#4, 0, false⟩) = .instr .readSpData := by decide
theorem test_decode_shutdown : decode cfg8 .init (.request ⟨0b1100#4, 0, false⟩) = .instr .shutdown := by decide
theorem test_decode_unused : decode cfg8 .init (.request ⟨0b1101#4, 0, false⟩) = .rejected (.unusedOperationId 13) := by decide

/-- The host's two questions, on the word of FEED (id 1) and the byte of CMD.SPECIAL. -/
theorem test_tableWord_runs : decodeTableWord 8 1 = some .feed ∧ decodeTableWord 8 0x7A = some .cmdSpecial ∧
    (nextOf (step (State.reset.withFetchWord 8 1))).map (·.result) = some (.bit false) ∧
    (nextOf (step (State.reset.withFetchWord 8 0x7A))).map (·.state) = some .specialOpcode := by decide

/-! ## The rows of the wire, one FEED or one byte each -/

/-- V3. -/
theorem test_pad_V3 : (feeding (blank cfg8 8) 0
    [0x7D#8, 0x7E#8, 0x7D#8, 0x80#8, 0x7D#8, 0x11#8, 0x7F#8, 0x7D#8, 0x30#8, 0x7D#8, 0x22#8]).map (view 4) =
    some (.data, 3, [0x11#8, 0x7E#8, 0x22#8, 0#8]) := by decide

/-- M5. -/
theorem test_pad_M5 : (feeding (blank cfg8 4) 0
    [0x7E#8, 0x7A#8, 0x7D#8, 0x05#8, 0x7D#8, 0x7F#8, 0x7D#8, 0x2F#8]).map mailbox =
    some (0x05#8, 0x7D#8, true) := by decide

/-- V4. -/
theorem test_start_V4 : (feeding (blank cfg8 8) 0 [0x7E#8, 0x80#8, 1#8, 2#8, 0x7E#8, 0x80#8, 9#8]).map (view 3) =
    some (.data, 1, [9#8, 2#8, 0#8]) := by decide

/-- V7. -/
theorem test_start_V7 : (feeding (blank cfg8 4) 0
    [0x7E#8, 0x80#8, 0x11#8, 0x7F#8, 0x7E#8, 0x80#8, 0x22#8]).map (view 4) =
    some (.data, 1, [0x22#8, 0#8, 0#8, 0#8]) := by decide

/-- V17. -/
theorem test_initSkip_V17 : (feeding (blank cfg8 4) 0 [0x80#8, 1#8, 0x7F#8, 0x7A#8, 5#8, 0x10#8]).map
    (fun t => (view 4 t, t.spPending)) = some ((.init, 0, [0#8, 0#8, 0#8, 0#8]), false) := by decide

/-- V1. -/
theorem test_cmdCh0_V1 : (feeding (blank cfg8 8) 0 [0x7E#8, 0x80#8, 1#8, 2#8, 3#8]).map (view 8) =
    some (.data, 3, [1#8, 2#8, 3#8, 0#8, 0#8, 0#8, 0#8, 0#8]) := by decide

/-- V9: the group after the last accepted one aborts. -/
theorem test_cmdCh_V9 : (feeding (blank cfg8 8) 0 [0x7E#8, 0xA0#8, 1#8, 2#8]).map
    (fun t => (t.state, entries 8 t)) = some (.init, [0#8, 0#8, 0#8, 0#8, 0#8, 0#8, 0#8, 0#8]) := by decide

/-- V19: the last group of the 16-bit configuration. -/
theorem test_cmdCh_V19 : (feeding { blank cfg16 4 with offset := 1016 } 0
    [0x7E#8, 0xFF#8, 1#8, 2#8, 3#8, 4#8, 5#8]).map (view 4) =
    some (.complete, 1020, [1#8, 2#8, 3#8, 4#8]) := by decide

/-- M8: a second opcode waits in the holding register. -/
theorem test_cmdSpecial_M8 : (feeding { blank cfg8 4 with spOpcode := 1#8, spData := 2#8, spPending := true } 0
    [0x7E#8, 0x7A#8, 9#8]).map (fun t => (t.state, t.spOpcodeHold, mailbox t)) =
    some (.specialData, 9#8, (1#8, 2#8, true)) := by decide

/-- V16: 0x7F as a command byte is no prefix. -/
theorem test_cmdUnk_V16 : (feeding (blank cfg8 4) 0 [0x7E#8, 0x7F#8, 0x30#8, 2#8]).map
    (fun t => (t.state, entries 4 t)) = some (.complete, [0#8, 0#8, 0#8, 0#8]) := by decide

/-- P5, the first FEED: it ends with the escape pending. -/
theorem test_dataEsc_P5 : (feeding (blank cfg8 4) 0
    [0x55#8, 0x7E#8, 0x13#8, 1#8, 2#8, 0x7E#8, 0xA5#8, 3#8, 0x7E#8, 0x80#8, 0x7F#8]).map (view 4) =
    some (.escape, 0, [0#8, 0#8, 0#8, 0#8]) := by decide

/-- V13: below the window, in it, above it. -/
theorem test_dataLit_V13 : (feeding { blank cfg8 4 with offset := 10 } 0
    [0x7E#8, 0x81#8, 1#8, 2#8, 3#8, 4#8, 5#8, 6#8, 7#8, 8#8]).map (view 4) =
    some (.complete, 14, [3#8, 4#8, 5#8, 6#8]) := by decide

/-- I6: an in-window byte is activity. -/
theorem test_dataLit_I6 : (byteAt { blank cfg8 4 with state := .data, idleFlag := true, lastActivity := 100 }
    5000 0x11#8).map (fun t => (t.idleFlag, t.lastActivity)) = some (false, 5000) := by decide

/-- V5. -/
theorem test_escVal_V5 : (feeding (blank cfg8 8) 0
    [0x7E#8, 0x80#8, 0x7F#8, 0x2F#8, 0x7F#8, 0x30#8, 0x7F#8, 0x31#8, 0x10#8]).map (view 5) =
    some (.data, 4, [0x7D#8, 0x7E#8, 0x7F#8, 0x10#8, 0#8]) := by decide

/-- V6: the sum wraps, and 0x7F after ESCAPE is a value. -/
theorem test_escVal_V6 : (feeding (blank cfg8 4) 0
    [0x7E#8, 0x80#8, 0x7F#8, 0#8, 0x7F#8, 0xB2#8, 0x7F#8, 0xFF#8, 0x7F#8, 0x7F#8]).map (view 4) =
    some (.data, 4, [0x4E#8, 0#8, 0x4D#8, 0xCD#8]) := by decide

/-- M4, the first FEED: the opcode is not escape-processed. -/
theorem test_spOpcode_M4 : (feeding (blank cfg8 4) 0 [0x7E#8, 0x7A#8, 0x7F#8, 0x2F#8, 0x55#8]).map
    (fun t => (mailbox t, t.rx.map (·.byte))) = some ((0x7F#8, 0x2F#8, true), [0x55#8]) := by decide

/-- M6: START in `SpecialData` drops the command, the held opcode stays. -/
theorem test_spOpcode_M6 : (feeding (blank cfg8 4) 0 [0x7E#8, 0x7A#8, 5#8, 0x7E#8, 0x80#8, 0x33#8]).map
    (fun t => (t.spPending, t.spOpcodeHold, view 4 t)) =
    some (false, 5#8, (.data, 1, [0x33#8, 0#8, 0#8, 0#8])) := by decide

/-- R82. -/
theorem test_spEsc : (byteAt { blank cfg8 4 with state := .specialData } 0 0x7F#8).map
    (fun t => (t.state, t.spPending)) = some (.specialEscape, false) := by decide

/-- M2, the first FEED: it stops at the completion. -/
theorem test_spData_M2 : (feeding (blank cfg8 4) 0 [0x7E#8, 0x7A#8, 5#8, 0x10#8, 0x7E#8, 0x80#8, 0xAA#8]).map
    (fun t => (t.state, mailbox t, t.rx.map (·.byte), t.result)) =
    some (.init, (5#8, 0x10#8, true), [0x7E#8, 0x80#8, 0xAA#8], .bit true) := by decide

/-- M7, the second FEED: the first command is lost. -/
theorem test_spData_M7 : (feeding { blank cfg8 4 with spOpcode := 1#8, spData := 2#8, spPending := true } 0
    [0x7E#8, 0x7A#8, 3#8, 4#8]).map mailbox = some (3#8, 4#8, true) := by decide

/-- M3. -/
theorem test_spEscVal_M3 : (feeding (blank cfg8 4) 0 [0x7E#8, 0x7A#8, 5#8, 0x7F#8, 0x31#8]).map
    (fun t => (t.state, mailbox t)) = some (.init, (5#8, 0x7F#8, true)) := by decide

/-- V10: the frame that ends at `MAX_ADDRESS`; the ninth data byte is discarded. -/
theorem test_doneSkip_V10 : (feeding { blank cfg8 8 with offset := 248 } 0
    [0x7E#8, 0x9F#8, 1#8, 2#8, 3#8, 4#8, 5#8, 6#8, 7#8, 8#8, 9#8]).map (view 8) =
    some (.complete, 255, [1#8, 2#8, 3#8, 4#8, 5#8, 6#8, 7#8, 8#8]) := by decide

/-! ## The host operations -/

/-- B1: clamped to 32. -/
theorem test_init_B1 : (asking (blank cfg8 4) 0 ⟨0#4, 200, false⟩).map (·.capacity) = some 32 := by decide

/-- V18: INIT(0), seen by a frame. -/
theorem test_init_V18 : (feeding (blank cfg8 0) 0 [0x7E#8, 0x80#8, 1#8]).map (view 1) =
    some (.complete, 0, [0#8]) := by decide

/-- M9. -/
theorem test_feed_M9 : (feeding (blank cfg8 4) 0 []).map (fun t => (t.result, view 4 t)) =
    some (.bit false, (.init, 0, [0#8, 0#8, 0#8, 0#8])) := by decide

/-- M10: PADs count as consumed. -/
theorem test_feed_M10 : (feeding (blank cfg8 4) 0 [0x7D#8, 0x7D#8]).map (fun t => (t.result, view 4 t)) =
    some (.bit true, (.init, 0, [0#8, 0#8, 0#8, 0#8])) := by decide

/-- B5. -/
theorem test_read_B5 : [2, 4, 255].map (fun i =>
      (asking { blank cfg8 4 with buf := [(0, 9#8), (1, 8#8), (2, 7#8), (3, 6#8)] } 0 ⟨2#4, i, false⟩).map (·.result)) =
    [some (.byte 7#8), some (.byte 0#8), some (.byte 0#8)] := by decide

/-- B7: without and with the pump. -/
theorem test_read_B7 : [false, true].map (fun p =>
      (asking { blank cfg8 4 with rx := samples 0 [0x7E#8, 0x80#8, 0xAA#8] } 0 ⟨2#4, 0, p⟩).map
        (fun t => (t.result, t.rx.length))) =
    [some (.byte 0#8, 3), some (.byte 0xAA#8, 0)] := by decide

/-- B2: zeroed although the offset does not change, `Data` forced to `Init`. -/
theorem test_setOffset_B2 : (asking { blank cfg8 4 with state := .data, cursor := 2, buf := [(0, 1#8), (1, 2#8)] }
    0 ⟨3#4, 0, false⟩).map (view 4) = some (.init, 2, [0#8, 0#8, 0#8, 0#8]) := by decide

/-- B3: `Command` stays across the operation. -/
theorem test_setOffset_B3 : (asking { blank cfg8 4 with state := .command } 0 ⟨3#4, 8, false⟩).map
    (fun t => (t.state, t.offset)) = some (.command, 8) := by decide

/-- P4. -/
theorem test_getOffset_P4 : (asking { blank cfg8 4 with offset := 8 } 0 ⟨4#4, 0, false⟩).map (·.result) =
    some (.address 8) := by decide

/-- P4. -/
theorem test_getCount_P4 : (asking { blank cfg8 4 with offset := 8 } 0 ⟨5#4, 0, false⟩).map (·.result) =
    some (.address 4) := by decide

/-- I1 and I2: the comparison is "at least". -/
theorem test_isIdle_I1_I2 : [1499, 1500].map (fun now =>
      (asking { blank cfg8 4 with lastActivity := 1000, timeout := 500 } now ⟨6#4, 0, false⟩).map
        (fun t => (t.result, t.idleFlag))) =
    [some (.bit false, false), some (.bit true, true)] := by decide

/-- I5: the counter has wrapped (the true time is 2^32 later). -/
theorem test_isIdle_I5 : [0x1000002E7, 0x1000002E8].map (fun now =>
      (asking { blank cfg8 4 with lastActivity := 0xFFFFFF00, timeout := 1000 } now ⟨6#4, 0, false⟩).map
        (fun t => (t.result, t.idleFlag))) =
    [some (.bit false, false), some (.bit true, true)] := by decide

/-- I11 and I12: SET_TIMEOUT writes the timeout and does not unlatch. -/
theorem test_setTimeout_I11 : (asking { blank cfg8 4 with idleFlag := true } 0 ⟨7#4, 5000, false⟩).map
    (fun t => (t.timeout, t.idleFlag)) = some (5000, true) := by decide

/-- I12. -/
theorem test_getTimeout_I12 : (asking { blank cfg8 4 with timeout := 2000 } 0 ⟨8#4, 0, false⟩).map (·.result) =
    some (.time 2000) := by decide

/-- M1: SP_AVAIL with the pump feeds first (R140). -/
theorem test_spAvail_pump : [false, true].map (fun p =>
      (asking { blank cfg8 4 with rx := samples 0 [0x7E#8, 0x7A#8, 5#8, 0x10#8] } 0 ⟨9#4, 0, p⟩).map (·.result)) =
    [some (.bit false), some (.bit true)] := by decide

/-- M1: the opcode read leaves the command pending. -/
theorem test_readSpOpcode_M1 : (asking { blank cfg8 4 with spOpcode := 5#8, spData := 0x10#8, spPending := true }
    0 ⟨10#4, 0, false⟩).map (fun t => (t.result, t.spPending)) = some (.byte 5#8, true) := by decide

/-- M1: the data read consumes. -/
theorem test_readSpData_M1 : (asking { blank cfg8 4 with spOpcode := 5#8, spData := 0x10#8, spPending := true }
    0 ⟨11#4, 0, false⟩).map (fun t => (t.result, t.spPending)) = some (.byte 0x10#8, false) := by decide

/-- M1, decision D18: a second data read gives the byte again. -/
theorem test_readSpData_again : (asking { blank cfg8 4 with spOpcode := 5#8, spData := 0x10#8 }
    0 ⟨11#4, 0, false⟩).map (fun t => (t.result, t.spPending)) = some (.byte 0x10#8, false) := by decide

/-- R143: the byte source is closed, the bytes stay. -/
theorem test_shutdown : (asking { blank cfg8 4 with rx := samples 0 [0x7E#8] } 0 ⟨12#4, 0, false⟩).map
    (fun t => (t.linkOpen, t.rx.length, t.state)) = some (false, 1, .init) := by decide

/-! ## Witnesses: for each statement with hypotheses, a state and operands that meet all of them, at the boundary values
of its clauses. `fresh` meets the hypothesis "an INIT has been performed" of the statements that have no other. -/

/-- A block with four entries in the window 10 to 13. -/
def fresh : State := { blank cfg8 4 with offset := 10 }

theorem witness_initialised : fresh.initialised = true ∧ fresh.linkOpen = true := by decide

theorem witness_DecodeOfEncodeIsTheInstruction :
    ((Instr.dataLit 0x7C#8).wf cfg8 = true ∧ (Instr.dataLit 0x7C#8).readIn .data = true) ∧
    ((Instr.cmdCh 1#7).wf cfg8 = true ∧ (Instr.cmdCh 127#7).wf cfg8 = true ∧ (Instr.cmdCh 1#7).readIn .command = true) ∧
    ((Instr.cmdUnk 0x7F#8).wf cfg8 = true ∧ (Instr.cmdUnk 0x7F#8).readIn .command = true) ∧
    ((Instr.read 255 true).wf cfg8 = true ∧ (Instr.read 255 true).readIn .escape = true) ∧
    ((Instr.setTimeout 4294967295).wf cfg8 = true ∧ (Instr.setTimeout 4294967295).readIn .init = true) := by decide

theorem witness_DecodedInstructionsAreWellFormed :
    decode cfg8 .data (.byte 0x80#8) = .instr (.dataLit 0x80#8) ∧
    decode cfg16 .init (.request ⟨2#4, 65535, true⟩) = .instr (.read 65535 true) := by decide

/-- The edge bytes of each clause: 0x00, 0x7C, 0x7F, 0xFF; 0x81, 0xFF; 0x79, 0x7B, 0x7C, 0x7F; 0x80, 0xFF. -/
theorem witness_DispatchTableSelectsTheRow :
    (decodeByte .init 0x7C#8 = .initSkip 0x7C#8 ∧ decodeByte .escape 0x7F#8 = .escVal 0x7F#8 ∧
      decodeByte .specialOpcode 0x00#8 = .spOpcode 0x00#8 ∧ decodeByte .complete 0xFF#8 = .doneSkip 0xFF#8) ∧
    (decodeByte .command 0x81#8 = .cmdCh 1#7 ∧ decodeByte .command 0xFF#8 = .cmdCh 127#7) ∧
    (decodeByte .command 0x79#8 = .cmdUnk 0x79#8 ∧ decodeByte .command 0x7B#8 = .cmdUnk 0x7B#8 ∧
      decodeByte .command 0x7C#8 = .cmdUnk 0x7C#8 ∧ decodeByte .command 0x7F#8 = .cmdUnk 0x7F#8) ∧
    (decodeByte .data 0x80#8 = .dataLit 0x80#8 ∧ decodeByte .specialData 0x7C#8 = .spData 0x7C#8) := by decide

/-- The edges of the two tables of spec/95, section 2.5. -/
theorem witness_AcceptedGroupsFitTheAddressRange :
    (cfg8.addrWidth = .w8 ∧ groupAccepted cfg8 31#7 = true ∧ groupAccepted cfg8 32#7 = false ∧
      startAddress 31#7 = 248) ∧
    (cfg16.addrWidth = .w16 ∧ groupAccepted cfg16 127#7 = true ∧ startAddress 127#7 = 1016) := by decide

theorem witness_StepRunsTheDecodedByte :
    ({ fresh with rx := [⟨0x7E#8, 7⟩], agenda := [.hostOp 5 ⟨1#4, 0, false⟩] } : State).agenda =
      .hostOp 5 ⟨1#4, 0, false⟩ :: [] ∧
    decodeRequest fresh.cfg ⟨1#4, 0, false⟩ = .instr .feed ∧ fresh.initialised = true ∧ fresh.linkOpen = true ∧
    (feeding fresh 7 [0x7E#8]).map (fun t => (t.state, t.now, t.result)) = some (.command, 7, .bit true) := by decide

theorem witness_StepRunsTheDecodedRequest :
    ({ fresh with agenda := [.hostOp 5 ⟨3#4, 255, false⟩] } : State).agenda = .hostOp 5 ⟨3#4, 255, false⟩ :: [] ∧
    decodeRequest fresh.cfg ⟨3#4, 255, false⟩ = .instr (.setOffset 255) := by decide

theorem witness_ArrivalsAppendAndIdleHolds :
    ({ fresh with agenda := [.arrive (samples 0 [0x7E#8])] } : State).agenda = .arrive (samples 0 [0x7E#8]) :: [] ∧
    fresh.agenda = [] := by decide

/-- An arrival, an operation that takes no bytes, and a FEED that takes four of five. -/
theorem witness_BytesAreTakenOnlyInsideAFeed :
    (nextOf (step { fresh with agenda := [.arrive (samples 0 [1#8])], rx := samples 0 [2#8] })).map (·.rx) =
      some (samples 0 [2#8, 1#8]) ∧
    (asking { fresh with rx := samples 0 [2#8] } 0 ⟨2#4, 0, false⟩).map (·.rx) = some (samples 0 [2#8]) ∧
    (feeding fresh 0 [0x7E#8, 0x7A#8, 5#8, 6#8, 7#8]).map (·.rx) = some (samples 0 [7#8]) := by decide

/-- The largest operands of each width. -/
theorem witness_RequestFieldsAnOperationLacksAreIgnored :
    255 < 2 ^ cfg8.addrBits ∧ 65535 < 2 ^ cfg16.addrBits ∧ 4294967295 < 2 ^ cfg8.timeWidth := by decide

/-- Ids 13 and 15; operands one too large for each of the four ids. -/
theorem witness_RequestsOutsideTheRulesAreRefused :
    (13 ≤ (13#4).toNat ∧ 13 ≤ (15#4).toNat) ∧ 2 ^ fresh.cfg.addrBits ≤ 256 ∧
    2 ^ fresh.cfg.timeWidth ≤ 4294967296 ∧
    nextOf (step { fresh with agenda := [.hostOp 0 ⟨15#4, 0, false⟩] }) = none ∧
    nextOf (step { fresh with agenda := [.hostOp 0 ⟨0#4, 256, false⟩] }) = none ∧
    nextOf (step { fresh with agenda := [.hostOp 0 ⟨2#4, 256, true⟩] }) = none ∧
    nextOf (step { fresh with agenda := [.hostOp 0 ⟨3#4, 256, false⟩] }) = none ∧
    nextOf (step { fresh with agenda := [.hostOp 0 ⟨7#4, 4294967296, false⟩] }) = none := by decide

theorem witness_BeforeInitNothingHasAMeaning :
    ({ fresh with initialised := false } : State).initialised = false ∧ ∀ n, Instr.feed ≠ .init n :=
  ⟨rfl, fun _ h => by cases h⟩

theorem witness_PadChangesNothing : fresh.initialised = true ∧ (⟨0x7D#8, 0⟩ : RxByte).byte = 0x7D#8 := by decide

theorem witness_StartRestartsTheFrame :
    fresh.initialised = true ∧ nextOf (exec .start fresh) = some { fresh with state := .command } := by decide

theorem witness_BytesOutsideAFrameAreIgnored :
    fresh.initialised = true ∧ fresh.state = .init ∧ ({ fresh with state := .complete } : State).state = .complete ∧
    (0x7F#8 : Byte) ≠ 0x7D#8 ∧ (0x7F#8 : Byte) ≠ 0x7E#8 := by decide

theorem witness_ChannelCommandZeroStartsAtZero :
    ({ fresh with state := .command, cursor := 9 } : State).initialised = true ∧
    nextOf (exec .cmdCh0 { fresh with state := .command, cursor := 9 }) =
      some { fresh with state := .data, cursor := 0 } := by decide

/-- The last group accepted and the first one refused; each clause's condition holds at one of them. -/
theorem witness_ChannelCommandSetsTheCursorOrAborts :
    fresh.initialised = true ∧ (31#7).toNat ≤ fresh.cfg.maxAddress >>> 3 ∧
    fresh.cfg.maxAddress >>> 3 < (32#7).toNat := by decide

/-- The edges of the byte ranges. -/
theorem witness_CommandAndSpecialRowsMoveTheState :
    fresh.initialised = true ∧ (0x79#8 : Byte).toNat ≤ 0x79 ∧ decodeByte .command 0x79#8 = .cmdUnk 0x79#8 ∧
    decodeByte .command 0x7B#8 = .cmdUnk 0x7B#8 := by decide

theorem witness_DataEscapeWaitsForTheNextByte :
    ({ fresh with state := .escape } : State).initialised = true ∧
    ({ fresh with state := .escape } : State).state = .escape ∧ ({ fresh with state := .escape } : State).rx = [] := by decide

/-- The cursor at 9, 10, 13 and 14 of the window 10 to 13; at 255 below, inside and above a window. -/
theorem witness_DataByteRunsTheAddressWrite :
    fresh.initialised = true ∧ Memory.wf fresh.buf = true ∧ fresh.cfg.maxAddress = 255 ∧ fresh.offset = 10 ∧
    fresh.capacity = 4 ∧
    [(10, 9), (10, 10), (10, 13), (10, 14), (252, 255), (255, 255), (10, 255)].map (fun p =>
      (nextOf (exec (.dataLit 5#8) { fresh with offset := p.1, cursor := p.2 })).map
        (fun t => (t.state, t.cursor, entries 4 t))) =
      [some (.data, 10, [0#8, 0#8, 0#8, 0#8]), some (.data, 11, [5#8, 0#8, 0#8, 0#8]),
       some (.data, 14, [0#8, 0#8, 0#8, 5#8]), some (.complete, 14, [0#8, 0#8, 0#8, 0#8]),
       some (.complete, 255, [0#8, 0#8, 0#8, 5#8]), some (.complete, 255, [5#8, 0#8, 0#8, 0#8]),
       some (.complete, 255, [0#8, 0#8, 0#8, 0#8])] := by decide

/-- Below the window at `MAX_ADDRESS`: only a state no run reaches has an offset above it. -/
theorem witness_DataByteRunsTheAddressWrite_below_at_the_top :
    ({ fresh with offset := 256, cursor := 255 } : State).cursor < ({ fresh with offset := 256, cursor := 255 } : State).offset ∧
    ({ fresh with offset := 256, cursor := 255 } : State).cursor = fresh.cfg.maxAddress := by decide

theorem witness_EscapedByteIsTheShiftedLiteral :
    fresh.initialised = true ∧ (0x4D#8 : Byte).toNat = ((0xFF#8 : Byte).toNat + 0x4E) % 256 := by decide

theorem witness_EscapePairEqualsTheLiteral :
    ({ fresh with state := .data } : State).initialised = true ∧ ({ fresh with state := .data } : State).state = .data := by
  decide

/-- A byte stored at index 3, and one below the window. -/
theorem witness_StoringRowsFrame :
    ({ fresh with cursor := 13 } : State).cursorPlace = .inside 3 ∧ fresh.cursorPlace = .below ∧
    (nextOf (exec (.dataLit 5#8) { fresh with cursor := 13 })).map (entries 4) = some [0#8, 0#8, 0#8, 5#8] ∧
    (nextOf (exec (.escVal 5#8) fresh)).map (entries 4) = some [0#8, 0#8, 0#8, 0#8] := by decide

/-- A row of each clause: one that keeps everything, one that completes a command, one that writes the holding register,
one that writes the cursor. -/
theorem witness_OtherWireRowsFrame :
    isWire .pad = true ∧ isWire (.spData 1#8) = true ∧ isWire (.spOpcode 1#8) = true ∧ isWire (.cmdCh 1#7) = true ∧
    nextOf (exec .pad fresh) = some fresh ∧
    (nextOf (exec (.spData 1#8) fresh)).map mailbox = some (0#8, 1#8, true) ∧
    (nextOf (exec (.spOpcode 1#8) fresh)).map (·.spOpcodeHold) = some 1#8 ∧
    (nextOf (exec (.cmdCh 1#7) fresh)).map (·.cursor) = some 8 := by decide

theorem witness_OpcodeWaitsInTheHoldingRegister :
    fresh.initialised = true ∧ (0x7F#8 : Byte) ≠ 0x7D#8 ∧ (0x7F#8 : Byte) ≠ 0x7E#8 := by decide

theorem witness_SpecialCommandCompletes :
    fresh.initialised = true ∧ (0x7F#8 : Byte).toNat = ((0x31#8 : Byte).toNat + 0x4E) % 256 := by decide

theorem witness_SetOffsetRetargetsTheWindow :
    fresh.initialised = true ∧ (nextOf (exec (.setOffset 3) { fresh with state := .escape })).map
      (fun t => (t.state, t.offset)) = some (.init, 3) := by decide

/-- The last index inside the capacity and the first one outside it. -/
theorem witness_ReadGivesTheEntryOrZero : fresh.initialised = true ∧ 3 < fresh.capacity ∧ fresh.capacity ≤ 4 := by decide

theorem witness_GettersReturnTheirRegister :
    fresh.initialised = true ∧ (nextOf (exec .getOffset fresh)).map (·.result) = some (.address 10) := by decide

theorem witness_MailboxPeekAndConsume :
    ({ fresh with spPending := true } : State).initialised = true ∧
    (nextOf (exec .readSpData { fresh with spPending := true })).map (·.spPending) = some false := by decide

/-- I1 and I2: elapsed 499 and 500 against a timeout of 500, and the latched flag. -/
theorem witness_IsIdleComparesAndLatches :
    let s : State := { fresh with lastActivity := 1000, timeout := 500, now := 1499 }
    s.initialised = true ∧ s.idleFlag = false ∧
    ((499 : Nat) : Int) = ((s.sampleNow : Int) - (s.lastActivity : Int)) % (2 ^ s.cfg.timeWidth : Int) ∧
    499 < s.timeout ∧
    ((500 : Nat) : Int) = ((({ s with now := 1500 } : State).sampleNow : Int) - (s.lastActivity : Int)) %
      (2 ^ s.cfg.timeWidth : Int) ∧ s.timeout ≤ 500 ∧ ({ s with idleFlag := true } : State).idleFlag = true := by decide

theorem witness_SetTimeoutWritesTheTimeout :
    fresh.initialised = true ∧ (nextOf (exec (.setTimeout 4294967295) fresh)).map (·.timeout) = some 4294967295 := by decide

theorem witness_ShutdownSilencesTheByteSource :
    ({ fresh with rx := samples 0 [0x7E#8] } : State).initialised = true ∧
    (nextOf (exec .feed { fresh with rx := samples 0 [0x7E#8], linkOpen := false })).map (·.result) =
      some (.bit false) := by decide

theorem witness_FeedRunsUntilStopOrEmpty :
    ({ fresh with rx := samples 0 [0x7E#8, 0x7A#8, 5#8, 6#8, 7#8] } : State).initialised = true ∧
    ({ fresh with rx := samples 0 [0x7E#8, 0x7A#8, 5#8, 6#8, 7#8] } : State).linkOpen = true ∧
    (nextOf (exec .feed { fresh with rx := samples 0 [0x7E#8, 0x7A#8, 5#8, 6#8, 7#8] })).map (fun t => t.rx) =
      some (samples 0 [7#8]) := by decide

theorem witness_FeedWithNothingAvailable :
    (fresh.initialised = true ∧ fresh.rx = []) ∧
    ({ fresh with rx := samples 0 [0x7E#8], linkOpen := false } : State).linkOpen = false := by decide

theorem witness_FeedOfOneByteIsItsStep :
    ({ fresh with rx := [⟨0x7E#8, 3⟩] } : State).initialised = true ∧
    ({ fresh with rx := [⟨0x7E#8, 3⟩] } : State).linkOpen = true ∧
    ({ fresh with rx := [⟨0x7E#8, 3⟩] } : State).rx = [⟨0x7E#8, 3⟩] := by decide

/-- A byte after which the feed goes on, and one that raises `stop`. -/
theorem witness_FeedTakesTheOldestByteAndGoesOn :
    (fresh.initialised = true ∧ fresh.linkOpen = true) ∧
    (nextOf (exec (decodeByte .data 1#8) { fresh with state := .data, rx := samples 0 [2#8] })).map
      (fun t => (t.stop, t.rx)) = some (false, samples 0 [2#8]) ∧
    (nextOf (exec (decodeByte .specialData 1#8) { fresh with state := .specialData, rx := samples 0 [2#8] })).map
      (fun t => (t.stop, t.rx)) = some (true, samples 0 [2#8]) := by decide

theorem witness_PumpIsAFeedFirst :
    ({ fresh with rx := samples 0 [0x7E#8, 0x80#8, 0xAA#8], offset := 0 } : State).initialised = true ∧
    (nextOf (exec (.read 0 true) { fresh with rx := samples 0 [0x7E#8, 0x80#8, 0xAA#8], offset := 0 })).map (·.result) =
      some (.byte 0xAA#8) := by decide

theorem witness_PlainHostOperationsFrame :
    isWire .readSpData = false ∧ feeds .readSpData = false ∧ (∀ n, Instr.readSpData ≠ .init n ∧ Instr.readSpData ≠ .setOffset n) ∧
    nextOf (exec .readSpData fresh) = some { fresh with result := .byte 0#8 } :=
  ⟨rfl, rfl, by simp, by decide⟩

/-- The invariant holds at a block with data in its window, and a step that stores at the last entry answers. -/
theorem witness_StepKeepsTheInvariant :
    State.Inv { fresh with
      cursor := 13, state := .data, buf := [(0, 1#8)], rx := [⟨5#8, 0⟩], agenda := [.hostOp 0 ⟨1#4, 0, false⟩] } ∧
    (byteAt { fresh with cursor := 13, state := .data, buf := [(0, 1#8)] } 0 5#8).map (fun t => t.buf) =
      some [(0, 1#8), (3, 5#8)] :=
  ⟨⟨by decide, by decide, by decide, by decide, by decide, by decide, by decide, by decide⟩, by decide⟩

theorem witness_BufferPropertiesHold :
    fresh.initialised = true ∧ (∀ n, Instr.feed ≠ .init n ∧ Instr.feed ≠ .setOffset n) ∧ isWire .feed = false ∧
    nextOf (exec .feed fresh) = some { fresh with result := .bit false } :=
  ⟨rfl, by simp, rfl, by decide⟩

/-- Entries all 0, and one write of each kind: outside the window they stay so, inside it one does not. -/
theorem witness_BufferPropertiesHold_zero_until_written :
    (∀ j, fresh.readEntry j = 0#8) ∧
    (nextOf (exec (.dataLit 5#8) { fresh with cursor := 14 })).map (entries 4) = some [0#8, 0#8, 0#8, 0#8] ∧
    (nextOf (exec (.dataLit 5#8) { fresh with cursor := 13 })).map (entries 4) = some [0#8, 0#8, 0#8, 5#8] :=
  ⟨fun j => by unfold State.readEntry; split <;> rfl, by decide, by decide⟩

/-- The feed case: entries all 0, and FEED of a PAD and a literal byte, taken in `Data` with the cursor in the window. -/
theorem witness_BufferPropertiesHold_fed :
    let s : State := { fresh with state := .data, cursor := 13, rx := samples 0 [0x7D#8, 5#8] }
    feeds .feed = true ∧ s.linkOpen = true ∧ entries 4 s = [0#8, 0#8, 0#8, 0#8] ∧
    s.rx = samples 0 [0x7D#8] ++ ⟨5#8, 0⟩ :: ([] ++ []) ∧
    decodeByte (stepAll (samples 0 [0x7D#8]) s).state 5#8 = .dataLit 5#8 ∧
    (stepAll (samples 0 [0x7D#8]) s).cursorPlace = .inside 3 ∧
    (nextOf (exec .feed s)).map (fun t => (entries 4 t, t.rx)) = some ([0#8, 0#8, 0#8, 5#8], []) := by decide

theorem witness_ConfigurationRegistersHaveOneWriter :
    (nextOf (exec .start fresh)).isSome = true ∧ (∀ n, Instr.start ≠ .init n ∧ Instr.start ≠ .setOffset n) ∧
    (∀ n, Instr.start ≠ .init n ∧ Instr.start ≠ .setTimeout n) :=
  ⟨by decide, by simp, by simp⟩

/-- The flag clears by the row itself, and by a byte that a feed takes. -/
theorem witness_OnlyAnInWindowWriteIsActivity :
    (nextOf (exec (.dataLit 5#8) { fresh with cursor := 10, idleFlag := true })).map (·.idleFlag) = some false ∧
    (nextOf (exec .feed { fresh with cursor := 10, state := .data, idleFlag := true, rx := [⟨5#8, 9⟩] })).map
      (fun t => (t.idleFlag, t.lastActivity)) = some (false, 9) := by decide

theorem witness_OnlyIsIdleSetsTheIdleFlag :
    fresh.idleFlag = false ∧ (nextOf (exec .isIdle { fresh with now := 5000 })).map (·.idleFlag) = some true := by decide

/-- A row that raises `stop`, a row that does not, and the read that clears the flag. -/
theorem witness_PendingIsSetWithStopAndClearedByTheRead :
    (nextOf (exec (.spEscVal 5#8) fresh)).map (fun t => (t.stop, t.spPending)) = some (true, true) ∧
    (nextOf (exec .start fresh)).map (fun t => (t.stop, t.spPending)) = some (false, false) ∧
    (nextOf (exec .readSpData { fresh with spPending := true })).map (·.spPending) = some false := by decide

/-- Both `Data`, with the cursor at the last address but one; and ESCAPE, which keeps the cursor. -/
theorem witness_CursorNeverDecreasesInAFrame :
    usesCursor .data = true ∧ usesCursor .escape = true ∧ 254 ≤ fresh.cfg.maxAddress ∧
    (nextOf (exec (decodeByte .data 5#8) { fresh with offset := 253, cursor := 254, state := .data })).map
      (fun t => (t.state, t.cursor)) = some (.data, 255) ∧
    (nextOf (exec (decodeByte .data 0x7F#8) { fresh with cursor := 254, state := .data })).map
      (fun t => (t.state, t.cursor)) = some (.escape, 254) := by decide

/-- Each of the six states entered, from the state the table gives. -/
theorem witness_StatesAreEnteredOnlyAsTabled :
    [(DecState.data, 0x7F#8), (.specialOpcode, 1#8), (.specialData, 0x7F#8), (.command, 0x7A#8), (.command, 0x80#8),
     (.escape, 1#8), (.complete, 0x7E#8)].map (fun p =>
      (nextOf (exec (decodeByte p.1 p.2) { fresh with state := p.1 })).map (·.state)) =
    [some .escape, some .specialData, some .specialEscape, some .specialOpcode, some .data, some .data,
     some .command] := by decide

theorem witness_StartAndChannelResynchronise :
    ({ fresh with state := .specialEscape } : State).initialised = true ∧ groupAccepted fresh.cfg 31#7 = true := by decide

/-- Group 1, so addresses 8 to 14 of the window 10 to 13; the entries at both edges are addressed, and index 4 is not. -/
theorem witness_ChannelFrameStoresItsData :
    let ds := samples 0 [1#8, 2#8, 3#8, 4#8, 5#8, 6#8, 7#8]
    let s : State := { fresh with rx := ⟨0x7E#8, 0⟩ :: ⟨channelByte 1#7, 0⟩ :: ds }
    s.initialised = true ∧ s.linkOpen = true ∧ Memory.wf s.buf = true ∧ groupAccepted s.cfg 1#7 = true ∧
    (∀ d ∈ ds, isLiteral d.byte = true) ∧
    (ds[2]? = some ⟨3#8, 0⟩ ∧ windowPlace s.offset s.capacity ((1#7).toNat * 8 + 2) = .inside 0) ∧
    (ds[5]? = some ⟨6#8, 0⟩ ∧ windowPlace s.offset s.capacity ((1#7).toNat * 8 + 5) = .inside 3) ∧
    (∀ j, j < ds.length → windowPlace s.offset s.capacity ((1#7).toNat * 8 + j) ≠ .inside 4) := by decide

theorem witness_SpecialCommandRoundTrip :
    let s : State := { fresh with rx := ⟨0x7E#8, 0⟩ :: ⟨0x7A#8, 0⟩ :: ⟨0x7F#8, 0⟩ :: ⟨0x2F#8, 0⟩ :: [⟨0x55#8, 0⟩] }
    s.initialised = true ∧ s.linkOpen = true ∧ reachesDispatch 0x7F#8 = true ∧ isLiteral 0x2F#8 = true := by decide

theorem witness_PadsAreTransparent :
    ({ fresh with rx := samples 0 [0x7D#8, 0x7E#8] } : State).initialised = true ∧
    dropPads (samples 0 [0x7D#8, 0x7E#8]) = samples 0 [0x7E#8] := by decide

/-- Two states that differ in both hidden registers, in `Command`; and two in `Data` that differ in the holding register. -/
theorem witness_HiddenRegistersAreInvisible :
    let s : State := { fresh with rx := samples 0 [0x81#8, 1#8], agenda := [.hostOp 0 ⟨1#4, 0, false⟩] }
    SameVisible { s with state := .command } { s with state := .command, cursor := 77, spOpcodeHold := 9#8 } ∧
    SameVisible { s with state := .data } { s with state := .data, spOpcodeHold := 9#8 } :=
  ⟨⟨rfl, by decide, by decide⟩, ⟨rfl, by decide, by decide⟩⟩

theorem witness_InitAndCompleteBehaveAlike :
    let s : State := { fresh with rx := samples 0 [0x80#8], agenda := [.hostOp 0 ⟨1#4, 0, false⟩] }
    SameButIdleState { s with state := .init } { s with state := .complete } :=
  ⟨rfl, .inr (by decide)⟩

/-- I10 and I1/I2: true times 499 and 500 after the write, and one missed period plus 10 (and plus 500). -/
theorem witness_IdleAnswersInTrueTime :
    let s : State := { fresh with lastActivity := 5000, timeout := 500, now := 5000 + 499 }
    s.initialised = true ∧ s.idleFlag = false ∧ s.lastActivity = 5000 % s.cfg.timeModulus ∧
    s.now = 5000 + 499 ∧ s.timeout < s.cfg.timeModulus ∧ 499 < s.timeout ∧ s.timeout ≤ 500 % s.cfg.timeModulus ∧
    (4294967296 + 10) % s.cfg.timeModulus < s.timeout := by decide

/-- In the window, with the timeout at 1 and at 0. -/
theorem witness_NotIdleDirectlyAfterAnInWindowWrite :
    ({ fresh with cursor := 10, timeout := 1 } : State).cursorPlace = .inside 0 ∧
    ({ fresh with cursor := 13, timeout := 0 } : State).cursorPlace = .inside 3 ∧
    ({ fresh with cursor := 10, timeout := 1 } : State).initialised = true := by decide

end Sys2Proof.Tests
end

section
/-!
PROOF. Reading the register file through the host (spec/20_memory.md).
-/

namespace Sys2Proof.Machine

/-- READ without the pump writes the result alone (R102, R135): the entry at the local index. -/
theorem exec_read_noPump {s : State} (h : s.initialised = true) (i : Nat) :
    exec (.read i false) s = .next { s with result := .byte (s.readEntry i) } :=
  afterInit_of_initialised h _

/-- Settles O30: READ answers the entry, which is the stored byte inside the capacity and 0 outside it. -/
theorem readGivesTheEntryOrZero : Obligations.ReadGivesTheEntryOrZero := by
  intro i s hs
  constructor
  · intro hi
    rw [exec_read_noPump hs, State.readEntry_of_lt hi]
  · intro hi
    rw [exec_read_noPump hs, State.readEntry_of_ge hi]

end Sys2Proof.Machine
end

section
/-!
PROOF. The dispatch table (spec/30_encoding.md, R58): the row a byte selects, state by state. PAD and START are tested
before the state; for a byte that is neither, each state's rows follow.
-/

namespace Sys2Proof.Machine

/-! ## The rows of one fixed byte -/

@[simp] theorem decodeByte_padByte (st : DecState) : decodeByte st 0x7D#8 = .pad := rfl

@[simp] theorem decodeByte_startByte (st : DecState) : decodeByte st 0x7E#8 = .start := rfl

@[simp] theorem decodeByte_command_minChannelByte : decodeByte .command 0x80#8 = .cmdCh0 := rfl

@[simp] theorem decodeByte_command_specialByte : decodeByte .command 0x7A#8 = .cmdSpecial := rfl

@[simp] theorem decodeByte_data_escapeByte : decodeByte .data 0x7F#8 = .dataEsc := rfl

@[simp] theorem decodeByte_specialData_escapeByte : decodeByte .specialData 0x7F#8 = .spEsc := rfl

/-! ## The rows of a byte that is neither PAD nor START -/

section
variable {b : Byte} (hpad : b ≠ Config.padByte) (hstart : b ≠ Config.startByte)
include hpad hstart

theorem decodeByte_init : decodeByte .init b = .initSkip b := by
  rw [decodeByte, if_neg hpad, if_neg hstart]

theorem decodeByte_escape : decodeByte .escape b = .escVal b := by
  rw [decodeByte, if_neg hpad, if_neg hstart]

theorem decodeByte_specialOpcode : decodeByte .specialOpcode b = .spOpcode b := by
  rw [decodeByte, if_neg hpad, if_neg hstart]

theorem decodeByte_specialEscape : decodeByte .specialEscape b = .spEscVal b := by
  rw [decodeByte, if_neg hpad, if_neg hstart]

theorem decodeByte_complete : decodeByte .complete b = .doneSkip b := by
  rw [decodeByte, if_neg hpad, if_neg hstart]

theorem decodeByte_data_literal (hesc : b ≠ Config.escapeByte) : decodeByte .data b = .dataLit b := by
  rw [decodeByte, if_neg hpad, if_neg hstart, if_neg hesc]

theorem decodeByte_specialData_literal (hesc : b ≠ Config.escapeByte) : decodeByte .specialData b = .spData b := by
  rw [decodeByte, if_neg hpad, if_neg hstart, if_neg hesc]

/-- Below the channel bytes, the special byte apart, `Command` knows no row (R77). -/
theorem decodeByte_command_unknown (hlow : b < Config.minChannelByte) (hsp : b ≠ Config.specialByte) :
    decodeByte .command b = .cmdUnk b := by
  have hzero : b ≠ Config.minChannelByte := BitVec.ne_of_lt hlow
  have hchannel : ¬ Config.minChannelByte < b := BitVec.not_lt.2 (BitVec.le_of_lt hlow)
  rw [decodeByte, if_neg hpad, if_neg hstart, if_neg hzero, if_neg hchannel, if_neg hsp]

end

/-! ## The channel bytes above 0x80 (R54) -/

theorem decodeByte_command_channel {b : Byte} (h : Config.minChannelByte < b) :
    decodeByte .command b = .cmdCh (groupNumber b) := by
  have hpad : b ≠ Config.padByte := by rintro rfl; exact absurd h (by decide)
  have hstart : b ≠ Config.startByte := by rintro rfl; exact absurd h (by decide)
  have hzero : b ≠ Config.minChannelByte := (BitVec.ne_of_lt h).symm
  rw [decodeByte, if_neg hpad, if_neg hstart, if_neg hzero, if_pos h]

/-- The group number of a channel byte is its distance from 0x80, since bit 7 is set. -/
theorem toNat_groupNumber {b : Byte} (h : 0x80 ≤ b.toNat) : (groupNumber b).toNat = b.toNat - 0x80 := by
  have hb : b.toNat < 256 := b.isLt
  rw [groupNumber, BitVec.toNat_setWidth]
  omega

/-! ## The table's ranges -/

/-- A byte outside 0x7D and 0x7E, as R58 gives its range, is neither PAD nor START. -/
theorem ne_pad_and_ne_start_of_range {b : Byte} (h : b.toNat ≤ 0x7C ∨ 0x7F ≤ b.toNat) :
    b ≠ Config.padByte ∧ b ≠ Config.startByte := by
  constructor <;> (rintro rfl; exact absurd h (by decide))

/-- R58's rows for `Command`'s unknown bytes, as the premises of `decodeByte_command_unknown`; 0x7F is one of them. -/
theorem unknownCommand_of_range {b : Byte} (h : b.toNat ≤ 0x79 ∨ b = 0x7B#8 ∨ b = 0x7C#8 ∨ b = 0x7F#8) :
    b ≠ Config.padByte ∧ b ≠ Config.startByte ∧ b < Config.minChannelByte ∧ b ≠ Config.specialByte := by
  obtain hle | rfl | rfl | rfl := h
  · rw [Config.padByte, Config.startByte, Config.minChannelByte, Config.specialByte]
    bv_omega
  all_goals decide

/-- Settles O3: each clause of the table is the row lemma of its state, under the range the clause gives. -/
theorem dispatchTableSelectsTheRow : Obligations.DispatchTableSelectsTheRow := by
  intro b
  refine ⟨?pad, ?start, ?oneRow, ?channelZero, ?channel, ?special, ?unknown, ?escape, ?literal⟩
  case pad => rintro rfl st; exact decodeByte_padByte st
  case start => rintro rfl st; exact decodeByte_startByte st
  case oneRow =>
    intro h
    obtain ⟨hpad, hstart⟩ := ne_pad_and_ne_start_of_range h
    exact ⟨decodeByte_init hpad hstart, decodeByte_escape hpad hstart, decodeByte_specialOpcode hpad hstart,
      decodeByte_specialEscape hpad hstart, decodeByte_complete hpad hstart⟩
  case channelZero => rintro rfl; exact decodeByte_command_minChannelByte
  case channel =>
    intro h
    exact ⟨groupNumber b, decodeByte_command_channel (BitVec.lt_def.2 h), toNat_groupNumber (Nat.le_of_lt h)⟩
  case special => rintro rfl; exact decodeByte_command_specialByte
  case unknown =>
    intro h
    obtain ⟨hpad, hstart, hlow, hsp⟩ := unknownCommand_of_range h
    exact decodeByte_command_unknown hpad hstart hlow hsp
  case escape => rintro rfl; exact ⟨decodeByte_data_escapeByte, decodeByte_specialData_escapeByte⟩
  case literal =>
    intro h
    obtain ⟨hpad, hstart⟩ := ne_pad_and_ne_start_of_range (h.imp_right Nat.le_of_lt)
    have hesc : b ≠ Config.escapeByte := by rintro rfl; exact absurd h (by decide)
    exact ⟨decodeByte_data_literal hpad hstart hesc, decodeByte_specialData_literal hpad hstart hesc⟩

end Sys2Proof.Machine
end

section
/-!
PROOF. The rows of the byte decoder that store nothing (spec/40_byte_decoder.md): what each answers, and the bytes the
feed loop takes without effect.
-/

namespace Sys2Proof.Machine

/-! ## Bytes the loop discards -/

/-- PAD, in any receive state (R71). -/
@[simp] theorem stepByte_padByte (s : State) : stepByte 0x7D#8 s = s.setStop false := rfl

/-- In `Init` and `Complete` every byte but START is discarded, PAD included (R71, R73, R85). -/
theorem stepByte_outsideFrame {s : State} {b : Byte} (hs : s.state = .init ∨ s.state = .complete)
    (hstart : b ≠ Config.startByte) : stepByte b s = s.setStop false := by
  by_cases hpad : b = Config.padByte
  · rw [hpad]; exact stepByte_padByte s
  · unfold stepByte
    obtain h | h := hs
    · rw [h, decodeByte_init hpad hstart]; rfl
    · rw [h, decodeByte_complete hpad hstart]; rfl

/-- A byte whose step only lowers `stop` leaves no trace but the queue and the time shown, and the loop goes on. -/
theorem feedLoop_cons_of_discarded {s : State} {x : RxByte} {rest : List RxByte}
    (h : stepByte x.byte (s.takeByte x rest) = (s.takeByte x rest).setStop false) (consumed : Bool) :
    feedLoop (x :: rest) consumed s = feedLoop rest true { s with rx := rest, now := x.now, stop := false } := by
  rw [feedLoop_cons, h]; rfl

/-- Settles O13: PAD is tested before the state, and its effect is to lower `stop`. -/
theorem padChangesNothing : Obligations.PadChangesNothing := by
  refine ⟨decodeByte_padByte, fun s hs => afterInit_of_initialised hs _, fun s x rest consumed hx => ?_⟩
  exact feedLoop_cons_of_discarded (by rw [hx, stepByte_padByte]) consumed

/-- Settles O15: outside a frame every byte but START is discarded, by the row itself and by the loop. -/
theorem bytesOutsideAFrameAreIgnored : Obligations.BytesOutsideAFrameAreIgnored := by
  refine ⟨fun b hpad hstart => ⟨decodeByte_init hpad hstart, decodeByte_complete hpad hstart⟩,
    fun b s hs => ⟨afterInit_of_initialised hs _, afterInit_of_initialised hs _⟩,
    fun s x rest consumed hs hstart => ?_⟩
  exact feedLoop_cons_of_discarded (stepByte_outsideFrame hs hstart) consumed

/-! ## Rows that move the state -/

/-- Settles O16: the row of 0x80, and its effect behind the gate. -/
theorem channelCommandZeroStartsAtZero : Obligations.ChannelCommandZeroStartsAtZero :=
  ⟨decodeByte_command_minChannelByte, fun _ hs => afterInit_of_initialised hs _⟩

/-- Settles O18: the rows of 0x7A, of the unknown bytes and of 0x7F, and their effects behind the gate. -/
theorem commandAndSpecialRowsMoveTheState : Obligations.CommandAndSpecialRowsMoveTheState := by
  refine ⟨⟨decodeByte_command_specialByte, decodeByte_specialData_escapeByte, fun b hb => ?_⟩,
    fun b s hs => ⟨afterInit_of_initialised hs _, afterInit_of_initialised hs _, afterInit_of_initialised hs _⟩⟩
  obtain ⟨hpad, hstart, hlow, hsp⟩ := unknownCommand_of_range hb
  exact decodeByte_command_unknown hpad hstart hlow hsp

/-! ## Waiting in `Escape` -/

/-- FEED is the loop, with its answer as the result, behind the gate (R134). -/
theorem exec_feed {s : State} (hs : s.initialised = true) :
    exec .feed s = .next ((feedAvailable s).1.setResult (.bit (feedAvailable s).2)) :=
  afterInit_of_initialised hs _

/-- Settles O19: ESCAPE moves to `Escape`, where an empty FEED stays and SET_OFFSET leaves the frame. -/
theorem dataEscapeWaitsForTheNextByte : Obligations.DataEscapeWaitsForTheNextByte := by
  refine ⟨decodeByte_data_escapeByte, fun s hs => afterInit_of_initialised hs _, ?emptyFeed, ?setOffset⟩
  case emptyFeed =>
    intro s hs hesc hrx
    refine ⟨_, exec_feed hs, ?_⟩
    rw [feedAvailable_empty hrx]
    exact hesc
  case setOffset =>
    intro s o hs hesc
    refine ⟨_, afterInit_of_initialised hs _, ?_⟩
    rw [State.setResult_state, leaveFrame_state]
    exact if_pos (.inr hesc)

end Sys2Proof.Machine
end

section
/-!
PROOF. The address-write step (spec/40_byte_decoder.md, R79, R86): its next state case by case, what it leaves in the
register file, and where it leaves the cursor.
-/

namespace Sys2Proof.Machine

/-! ## The advance and the three cases -/

theorem State.advanceCursor_at_top {s : State} (h : s.cursor = s.cfg.maxAddress) :
    s.advanceCursor = s.setState .complete := if_pos h

theorem State.advanceCursor_below_top {s : State} (h : s.cursor ≠ s.cfg.maxAddress) :
    s.advanceCursor = (s.setCursor (s.cursor + 1)).setState .data := if_neg h

theorem State.addressWrite_below {s : State} (h : s.cursorPlace = .below) (v : Byte) :
    s.addressWrite v = s.advanceCursor := by
  rw [State.addressWrite, h]

theorem State.addressWrite_inside {s : State} {i : Nat} (h : s.cursorPlace = .inside i) (v : Byte) :
    s.addressWrite v = ((s.storeEntry i v).recordActivity).advanceCursor := by
  rw [State.addressWrite, h]

theorem State.addressWrite_above {s : State} (h : s.cursorPlace = .above) (v : Byte) :
    s.addressWrite v = s.setState .complete := by
  rw [State.addressWrite, h]; rfl

/-! ## The register file after it -/

/-- In the window the entry addressed holds the byte. -/
theorem State.readEntry_addressWrite_inside {s : State} {i : Nat} (h : s.cursorPlace = .inside i)
    (hwf : Memory.wf s.buf = true) (v : Byte) : (s.addressWrite v).readEntry i = v := by
  obtain ⟨-, rfl, hi⟩ := windowPlace_eq_inside.1 h
  rw [State.readEntry_of_lt (by simpa using hi), State.addressWrite_inside h]
  simpa using Memory.read_write_same _ v hwf

/-- Every entry the cursor does not address stays. -/
theorem State.readEntry_addressWrite_ne {s : State} {i : Nat} (h : s.cursorPlace ≠ .inside i) (v : Byte) :
    (s.addressWrite v).readEntry i = s.readEntry i := by
  cases hp : s.cursorPlace with
  | below => rw [State.addressWrite_below hp]; exact State.readEntry_congr (by simp) (by simp) i
  | above => rw [State.addressWrite_above hp]; exact State.readEntry_congr rfl rfl i
  | inside a =>
    have hne : i ≠ a := by rintro rfl; exact h hp
    rw [State.addressWrite_inside hp]
    simp [State.readEntry, Memory.read_write_ne _ v hne]

theorem State.wf_buf_addressWrite {s : State} (hwf : Memory.wf s.buf = true) (v : Byte) :
    Memory.wf (s.addressWrite v).buf = true := by
  cases hp : s.cursorPlace with
  | below => simpa [State.addressWrite_below hp] using hwf
  | above => simpa [State.addressWrite_above hp] using hwf
  | inside a => simpa [State.addressWrite_inside hp] using Memory.wf_write a v hwf

/-! ## The receive state after it -/

/-- At `MAX_ADDRESS` the advance completes the frame; otherwise the cursor moves on by one, in `Data`. -/
theorem State.advanceCursor_progress (s : State) :
    (s.advanceCursor.state = .data ∧ s.advanceCursor.cursor = s.cursor + 1 ∧ s.cursor ≠ s.cfg.maxAddress) ∨
    (s.advanceCursor.state = .complete ∧ s.cursor = s.cfg.maxAddress) := by
  obtain ⟨htop, h⟩ | ⟨htop, h⟩ := s.advanceCursor_cases
  · exact .inr ⟨by rw [h, State.setState_state], htop⟩
  · exact .inl ⟨by rw [h, State.setState_state], by rw [h, State.setState_cursor, State.setCursor_cursor], htop⟩

/-- The address-write step goes on as the advance does, but above the window it completes the frame. -/
theorem State.addressWrite_progress (s : State) (v : Byte) :
    ((s.addressWrite v).state = .data ∧ (s.addressWrite v).cursor = s.cursor + 1 ∧ s.cursor ≠ s.cfg.maxAddress) ∨
    ((s.addressWrite v).state = .complete ∧ (s.cursor = s.cfg.maxAddress ∨ s.cursorPlace = .above)) := by
  cases hp : s.cursorPlace with
  | below =>
    rw [State.addressWrite_below hp]
    exact s.advanceCursor_progress.imp_right (And.imp_right .inl)
  | inside i =>
    rw [State.addressWrite_inside hp]
    exact (State.advanceCursor_progress ((s.storeEntry i v).recordActivity)).imp_right (And.imp_right .inl)
  | above => exact .inr ⟨by rw [State.addressWrite_above hp, State.setState_state], .inr rfl⟩

/-- Settles O20: the row is the address-write step, whose cases are those of the window and of the advance. -/
theorem dataByteRunsTheAddressWrite : Obligations.DataByteRunsTheAddressWrite := by
  refine ⟨fun b hpad hstart hesc => decodeByte_data_literal hpad hstart hesc, fun v s hs => ?_⟩
  have below (h : s.cursor < s.offset) : s.cursorPlace = .below := windowPlace_eq_below.2 h
  have inside (h : s.offset ≤ s.cursor) (h' : s.cursor - s.offset < s.capacity) :
      s.cursorPlace = .inside (s.cursor - s.offset) := windowPlace_eq_inside.2 ⟨h, rfl, h'⟩
  have above (h : s.offset ≤ s.cursor) (h' : s.capacity ≤ s.cursor - s.offset) : s.cursorPlace = .above :=
    windowPlace_eq_above.2 ⟨h, h'⟩
  refine ⟨(s.addressWrite v).setStop false, afterInit_of_initialised hs _,
    ?belowTop, ?belowOn, ?insideTop, ?insideOn, ?readBack, ?above⟩
  case belowTop =>
    intro h htop
    rw [State.addressWrite_below (below h), State.advanceCursor_at_top htop]; rfl
  case belowOn =>
    intro h htop
    rw [State.addressWrite_below (below h), State.advanceCursor_below_top htop]; rfl
  case insideTop =>
    intro h h' htop
    rw [State.addressWrite_inside (inside h h'),
      State.advanceCursor_at_top (s := (s.storeEntry _ v).recordActivity) htop]
    rfl
  case insideOn =>
    intro h h' htop
    rw [State.addressWrite_inside (inside h h'),
      State.advanceCursor_below_top (s := (s.storeEntry _ v).recordActivity) htop]
    rfl
  case readBack =>
    intro h h' hwf
    exact State.readEntry_addressWrite_inside (inside h h') hwf v
  case above =>
    intro h h'
    rw [State.addressWrite_above (above h h')]; rfl

end Sys2Proof.Machine
end

section
/-!
PROOF. The byte-consumption loop (spec/40_byte_decoder.md, R87): the bytes a FEED takes and the state they leave.
-/

namespace Sys2Proof.Machine

/-! ## Stepping on the oldest byte -/

@[simp] theorem stepAll_nil (s : State) : stepAll [] s = s := rfl

@[simp] theorem stepAll_cons (x : RxByte) (xs : List RxByte) (s : State) :
    stepAll (x :: xs) s = stepAll xs (stepNext s x) := rfl

@[simp] theorem stepNext_cfg (s : State) (x : RxByte) : (stepNext s x).cfg = s.cfg := stepByte_cfg _ _
@[simp] theorem stepNext_offset (s : State) (x : RxByte) : (stepNext s x).offset = s.offset := stepByte_offset _ _
@[simp] theorem stepNext_capacity (s : State) (x : RxByte) : (stepNext s x).capacity = s.capacity := stepByte_capacity _ _

/-- The queue loses its oldest byte. -/
theorem stepNext_rx {s : State} {x : RxByte} {rest : List RxByte} (h : s.rx = x :: rest) :
    (stepNext s x).rx = rest := by
  rw [stepNext, stepByte_rx, State.takeByte_rx, h, List.tail_cons]

/-- The loop on a nonempty queue takes the oldest byte, and goes on unless its step raised `stop`. -/
theorem feedLoop_queue {s : State} {x : RxByte} {rest : List RxByte} (h : s.rx = x :: rest) (consumed : Bool) :
    feedLoop (x :: rest) consumed s =
      if (stepNext s x).stop then (stepNext s x, true) else feedLoop rest true (stepNext s x) := by
  rw [feedLoop_cons, stepNext, h, List.tail_cons]

theorem feedAvailable_open {s : State} (h : s.linkOpen = true) : feedAvailable s = feedLoop s.rx false s := if_pos h

/-! ## One run of the loop -/

/-- `taken` is what the loop takes in `s`: the oldest bytes of the queue, none but the last one raising `stop`, up to the
end of the queue or a `stop`. -/
structure FeedRun (s : State) (taken : List RxByte) : Prop where
  queue       : s.rx = taken ++ (stepAll taken s).rx
  noStopSoFar : ∀ p q, taken = p ++ q → p ≠ [] → q ≠ [] → (stepAll p s).stop = false
  ended       : (stepAll taken s).rx = [] ∨ (taken ≠ [] ∧ (stepAll taken s).stop = true)

theorem FeedRun.nil {s : State} (h : s.rx = []) : FeedRun s [] where
  queue := rfl
  noStopSoFar _ _ h hp := absurd (List.append_eq_nil_iff.1 h.symm).1 hp
  ended := .inl h

theorem FeedRun.singleton {s : State} {x : RxByte} {rest : List RxByte} (h : s.rx = x :: rest)
    (hstop : (stepNext s x).stop = true) : FeedRun s [x] where
  queue := by rw [stepAll_cons, stepAll_nil, stepNext_rx h, h]; rfl
  noStopSoFar p q hpq hp hq := by
    have : 1 = p.length + q.length := by simpa using congrArg List.length hpq
    have := List.length_pos_iff.2 hp
    have := List.length_pos_iff.2 hq
    omega
  ended := .inr ⟨List.cons_ne_nil _ _, hstop⟩

theorem FeedRun.cons {s : State} {x : RxByte} {rest taken : List RxByte} (h : s.rx = x :: rest)
    (hstop : (stepNext s x).stop = false) (hrun : FeedRun (stepNext s x) taken) : FeedRun s (x :: taken) where
  queue := by rw [stepAll_cons, List.cons_append, ← hrun.queue, stepNext_rx h, h]
  noStopSoFar p q hpq hp hq := by
    cases p with
    | nil => exact absurd rfl hp
    | cons y p =>
      obtain ⟨rfl, htail⟩ := List.cons_eq_cons.1 hpq
      cases p with
      | nil => exact hstop
      | cons z p => exact hrun.noStopSoFar (z :: p) q htail (List.cons_ne_nil _ _) hq
  ended := hrun.ended.imp_right fun hend => ⟨List.cons_ne_nil _ _, hend.2⟩

/-- The loop runs to the state after the bytes it takes, and says whether it, or an earlier round, took any. -/
theorem exists_feedRun (xs : List RxByte) (consumed : Bool) (s : State) (h : s.rx = xs) :
    ∃ taken, FeedRun s taken ∧ feedLoop xs consumed s = (stepAll taken s, consumed || decide (taken ≠ [])) := by
  induction xs generalizing consumed s with
  | nil => exact ⟨[], .nil h, by simp [feedLoop]⟩
  | cons x rest ih =>
    rw [feedLoop_queue h]
    cases hstop : (stepNext s x).stop with
    | true => exact ⟨[x], .singleton h hstop, by simp⟩
    | false =>
      obtain ⟨taken, hrun, heq⟩ := ih true (stepNext s x) (stepNext_rx h)
      exact ⟨x :: taken, .cons h hstop hrun, by simp [heq]⟩

/-- Settles O36: FEED is one run of the loop over the whole queue. -/
theorem feedRunsUntilStopOrEmpty : Obligations.FeedRunsUntilStopOrEmpty := by
  intro s hs hopen
  obtain ⟨taken, hrun, heq⟩ := exists_feedRun s.rx false s rfl
  refine ⟨taken, (stepAll taken s).setResult (.bit (decide (taken ≠ []))), ?_,
    hrun.queue, rfl, hrun.noStopSoFar, hrun.ended⟩
  rw [exec_feed hs, feedAvailable_open hopen, heq, Bool.false_or]

end Sys2Proof.Machine
end

section
/-!
PROOF. The frame property (spec/40_byte_decoder.md, R89). `StoredFrom a ds s t` says that `t` differs from `s` as data
bytes `ds` sent to the addresses from `a` on make it; a literal byte establishes it for itself and the bytes after it
for the rest, whether the frame goes on or is complete.
-/

namespace Sys2Proof.Machine

/-! ## What a list of data bytes stores -/

/-- In `t` each entry that the addresses `a`, `a + 1`, … reach, within the window of `s` and up to `MAX_ADDRESS`, holds
its byte of `ds`; every other entry is that of `s`. -/
structure StoredFrom (a : Nat) (ds : List RxByte) (s t : State) : Prop where
  stored : ∀ (j i : Nat) (d : RxByte), ds[j]? = some d → a + j ≤ s.cfg.maxAddress →
    windowPlace s.offset s.capacity (a + j) = .inside i → t.readEntry i = d.byte
  kept : ∀ i : Nat, (∀ j, j < ds.length → a + j ≤ s.cfg.maxAddress →
    windowPlace s.offset s.capacity (a + j) ≠ .inside i) → t.readEntry i = s.readEntry i

/-- Nothing is stored where no address of the list is in reach, and no entry has changed. -/
theorem StoredFrom.of_unreached {a : Nat} {ds : List RxByte} {s t : State}
    (hout : ∀ j, a + j ≤ s.cfg.maxAddress → ∀ i, windowPlace s.offset s.capacity (a + j) ≠ .inside i)
    (hread : ∀ i, t.readEntry i = s.readEntry i) : StoredFrom a ds s t where
  stored j i _ _ hj hi := absurd hi (hout j hj i)
  kept i _ := hread i

/-- Different addresses have different places in the window. -/
theorem windowPlace_ne_inside_of_lt {o n a b i : Nat} (hab : a < b) (h : windowPlace o n a = .inside i) :
    windowPlace o n b ≠ .inside i := by
  rw [Ne, windowPlace_eq_inside]
  obtain ⟨ha, hi, -⟩ := windowPlace_eq_inside.1 h
  omega

/-- Above the window there is no way back into it. -/
theorem windowPlace_ne_inside_of_above {o n a b i : Nat} (hab : a ≤ b) (h : windowPlace o n a = .above) :
    windowPlace o n b ≠ .inside i := by
  rw [Ne, windowPlace_eq_inside]
  obtain ⟨ha, hn⟩ := windowPlace_eq_above.1 h
  omega

/-- A first byte stored at `a` in `u`, and the rest stored from `a + 1` on. -/
theorem StoredFrom.cons {a : Nat} {d : RxByte} {ds : List RxByte} {s u t : State} (ha : a ≤ s.cfg.maxAddress)
    (hcfg : u.cfg = s.cfg) (hoffset : u.offset = s.offset) (hcapacity : u.capacity = s.capacity)
    (hstored : ∀ i, windowPlace s.offset s.capacity a = .inside i → u.readEntry i = d.byte)
    (hkept : ∀ i, windowPlace s.offset s.capacity a ≠ .inside i → u.readEntry i = s.readEntry i)
    (hrest : StoredFrom (a + 1) ds u t) : StoredFrom a (d :: ds) s t := by
  obtain ⟨rstored, rkept⟩ := hrest
  rw [hcfg, hoffset, hcapacity] at rstored rkept
  refine ⟨fun j i e he hj hi => ?_, fun i hout => ?_⟩
  · cases j with
    | zero =>
      obtain rfl : d = e := by simpa using he
      rw [rkept i fun j _ _ => windowPlace_ne_inside_of_lt (by omega) hi, hstored i hi]
    | succ j =>
      rw [show a + (j + 1) = a + 1 + j by omega] at hj hi
      exact rstored j i e (by simpa using he) hj hi
  · have hlater : ∀ j, j < ds.length → a + 1 + j ≤ s.cfg.maxAddress →
        windowPlace s.offset s.capacity (a + 1 + j) ≠ .inside i := by
      intro j hj
      rw [show a + 1 + j = a + (j + 1) by omega]
      exact hout (j + 1) (by simpa using hj)
    rw [rkept i hlater, hkept i (hout 0 (by simp) ha)]

/-! ## A literal byte in `Data` and in `Complete` -/

theorem isLiteral_iff {b : Byte} :
    isLiteral b = true ↔ b ≠ Config.padByte ∧ b ≠ Config.startByte ∧ b ≠ Config.escapeByte := by
  simp [isLiteral, reachesDispatch, and_assoc]

theorem stepNext_literal_data {s : State} {x : RxByte} (hs : s.state = .data) (hx : isLiteral x.byte = true) :
    stepNext s x = ((s.takeByte x s.rx.tail).addressWrite x.byte).setStop false := by
  obtain ⟨hpad, hstart, hesc⟩ := isLiteral_iff.1 hx
  rw [stepNext, stepByte, State.takeByte_state, hs, decodeByte_data_literal hpad hstart hesc]
  rfl

theorem stepNext_literal_complete {s : State} {x : RxByte} (hs : s.state = .complete) (hx : isLiteral x.byte = true) :
    stepNext s x = (s.takeByte x s.rx.tail).setStop false :=
  stepByte_outsideFrame (.inr hs) (isLiteral_iff.1 hx).2.1

section
variable {s : State} {x : RxByte} (hs : s.state = .data) (hx : isLiteral x.byte = true)
include hs hx

theorem stepNext_literal_data_progress :
    ((stepNext s x).state = .data ∧ (stepNext s x).cursor = s.cursor + 1 ∧ s.cursor ≠ s.cfg.maxAddress) ∨
    ((stepNext s x).state = .complete ∧ (s.cursor = s.cfg.maxAddress ∨ s.cursorPlace = .above)) := by
  rw [stepNext_literal_data hs hx]
  exact State.addressWrite_progress (s.takeByte x s.rx.tail) x.byte

theorem stepNext_literal_data_readEntry_inside {i : Nat} (hi : s.cursorPlace = .inside i)
    (hwf : Memory.wf s.buf = true) : (stepNext s x).readEntry i = x.byte := by
  rw [stepNext_literal_data hs hx]
  exact State.readEntry_addressWrite_inside (s := s.takeByte x s.rx.tail) hi hwf x.byte

theorem stepNext_literal_data_readEntry_ne {i : Nat} (hi : s.cursorPlace ≠ .inside i) :
    (stepNext s x).readEntry i = s.readEntry i := by
  rw [stepNext_literal_data hs hx]
  exact State.readEntry_addressWrite_ne (s := s.takeByte x s.rx.tail) hi x.byte

theorem stepNext_literal_data_wf_buf (hwf : Memory.wf s.buf = true) : Memory.wf (stepNext s x).buf = true := by
  rw [stepNext_literal_data hs hx]
  exact State.wf_buf_addressWrite (s := s.takeByte x s.rx.tail) hwf x.byte

end

/-- Literal bytes keep the decoder within the data of the frame or after it, and never raise `stop`. -/
theorem stepNext_literal_keeps {s : State} {x : RxByte} (hs : s.state = .data ∨ s.state = .complete)
    (hx : isLiteral x.byte = true) :
    ((stepNext s x).state = .data ∨ (stepNext s x).state = .complete) ∧ (stepNext s x).stop = false := by
  obtain hs | hs := hs
  · exact ⟨(stepNext_literal_data_progress hs hx).imp And.left And.left, by rw [stepNext_literal_data hs hx]; rfl⟩
  · rw [stepNext_literal_complete hs hx]
    exact ⟨.inr hs, rfl⟩

/-- So the loop takes them all. -/
theorem feedLoop_literals (ds : List RxByte) (s : State) (hrx : s.rx = ds) (hs : s.state = .data ∨ s.state = .complete)
    (hlit : ∀ d ∈ ds, isLiteral d.byte = true) :
    feedLoop ds true s = (stepAll ds s, true) ∧ (stepAll ds s).rx = [] := by
  induction ds generalizing s with
  | nil => exact ⟨rfl, hrx⟩
  | cons d ds ih =>
    obtain ⟨hd, hds⟩ := List.forall_mem_cons.1 hlit
    obtain ⟨hnext, hstop⟩ := stepNext_literal_keeps hs hd
    rw [feedLoop_queue hrx, hstop, if_neg Bool.false_ne_true]
    exact ih (stepNext s d) (stepNext_rx hrx) hnext hds

theorem stepAll_literals_complete_readEntry (ds : List RxByte) (s : State) (hs : s.state = .complete)
    (hlit : ∀ d ∈ ds, isLiteral d.byte = true) (i : Nat) : (stepAll ds s).readEntry i = s.readEntry i := by
  induction ds generalizing s with
  | nil => rfl
  | cons d ds ih =>
    obtain ⟨hd, hds⟩ := List.forall_mem_cons.1 hlit
    have hnext := stepNext_literal_complete hs hd
    calc (stepAll ds (stepNext s d)).readEntry i
        = (stepNext s d).readEntry i := ih _ (by rw [hnext]; exact hs) hds
      _ = s.readEntry i := by rw [hnext]; rfl

/-- Literal data bytes, from `Data` with the cursor in range, are stored from the cursor on. -/
theorem stepAll_literals_data_storedFrom (ds : List RxByte) (s : State) (hs : s.state = .data)
    (hcursor : s.cursor ≤ s.cfg.maxAddress) (hwf : Memory.wf s.buf = true)
    (hlit : ∀ d ∈ ds, isLiteral d.byte = true) : StoredFrom s.cursor ds s (stepAll ds s) := by
  induction ds generalizing s with
  | nil => exact ⟨fun j i d h => by simp at h, fun _ _ => rfl⟩
  | cons d ds ih =>
    obtain ⟨hd, hds⟩ := List.forall_mem_cons.1 hlit
    refine .cons (u := stepNext s d) hcursor (stepNext_cfg s d) (stepNext_offset s d) (stepNext_capacity s d)
      (fun i hi => stepNext_literal_data_readEntry_inside hs hd hi hwf)
      (fun i hi => stepNext_literal_data_readEntry_ne hs hd hi) ?rest
    obtain ⟨hdata, hmoved, hbelow⟩ | ⟨hcomplete, hend⟩ := stepNext_literal_data_progress hs hd
    · rw [← hmoved]
      refine ih _ hdata ?_ (stepNext_literal_data_wf_buf hs hd hwf) hds
      rw [hmoved, stepNext_cfg]
      omega
    · refine .of_unreached (fun j hj i => ?_) (stepAll_literals_complete_readEntry ds _ hcomplete hds)
      rw [stepNext_cfg] at hj
      rw [stepNext_offset, stepNext_capacity]
      obtain htop | habove := hend
      · omega
      · exact windowPlace_ne_inside_of_above (a := s.cursor) (by omega) habove

/-! ## The head of the frame -/

/-- The byte of `CH(k)` is `0x80 + k` (R54). -/
theorem toNat_channelByte (k : BitVec 7) : (channelByte k).toNat = 0x80 + k.toNat := by
  rw [channelByte, BitVec.toNat_or, BitVec.toNat_setWidth, Nat.mod_eq_of_lt (by omega)]
  exact (Nat.two_pow_add_eq_or_of_lt (i := 7) k.isLt 1).symm

theorem groupNumber_channelByte (k : BitVec 7) : groupNumber (channelByte k) = k := by
  apply BitVec.eq_of_toNat_eq
  rw [toNat_groupNumber (by rw [toNat_channelByte]; omega), toNat_channelByte, Nat.add_sub_cancel_left]

/-- An accepted channel command sets the cursor and goes to `Data`, whether its byte is CMD.CH0's or CMD.CH's. -/
theorem stepByte_channelByte {s : State} {k : BitVec 7} (hs : s.state = .command)
    (hk : groupAccepted s.cfg k = true) :
    stepByte (channelByte k) s = ((s.setCursor (startAddress k)).setState .data).setStop false := by
  rw [stepByte, hs]
  by_cases hzero : k = 0#7
  · rw [hzero]; rfl
  · have hpos : k.toNat ≠ 0 := fun h => hzero (BitVec.eq_of_toNat_eq h)
    have hchannel : Config.minChannelByte < channelByte k := by
      rw [BitVec.lt_def, toNat_channelByte]
      exact Nat.lt_add_of_pos_right (Nat.pos_of_ne_zero hpos)
    rw [decodeByte_command_channel hchannel, groupNumber_channelByte]
    exact if_pos hk

theorem startAddress_le_maxAddress {c : Config} {k : BitVec 7} (h : groupAccepted c k = true) :
    startAddress k ≤ c.maxAddress := by
  have hk : k.toNat ≤ c.maxAddress >>> 3 := of_decide_eq_true h
  rw [Nat.shiftRight_eq_div_pow] at hk
  rw [startAddress]
  omega

/-- The state in which the data `ds` of a frame starts: START and `CH(k)` taken, the cursor at the group's address. -/
def State.atChannelData (s : State) (k : BitVec 7) (t : Nat) (ds : List RxByte) : State :=
  { s with state := .data, cursor := startAddress k, rx := ds, now := t, stop := false }

/-- FEED of a frame's head and its literal data takes the whole queue. -/
theorem exec_feed_channelFrame {s : State} {k : BitVec 7} {t0 t1 : Nat} {ds : List RxByte}
    (hs : s.initialised = true) (hopen : s.linkOpen = true) (hk : groupAccepted s.cfg k = true)
    (hlit : ∀ d ∈ ds, isLiteral d.byte = true) (hrx : s.rx = ⟨0x7E#8, t0⟩ :: ⟨channelByte k, t1⟩ :: ds) :
    exec .feed s = .next ((stepAll ds (s.atChannelData k t1 ds)).setResult (.bit true)) ∧
      (stepAll ds (s.atChannelData k t1 ds)).rx = [] := by
  obtain ⟨hloop, hempty⟩ := feedLoop_literals ds (s.atChannelData k t1 ds) rfl (.inl rfl) hlit
  have hstart : stepNext s ⟨0x7E#8, t0⟩ =
      { s with state := .command, rx := ⟨channelByte k, t1⟩ :: ds, now := t0, stop := false } := by
    rw [stepNext, hrx]; rfl
  have hchannel : stepNext (stepNext s ⟨0x7E#8, t0⟩) ⟨channelByte k, t1⟩ = s.atChannelData k t1 ds := by
    rw [hstart]; exact stepByte_channelByte rfl hk
  refine ⟨?_, hempty⟩
  rw [exec_feed hs, feedAvailable_open hopen, hrx, feedLoop_queue hrx, if_neg (by simp [hstart]),
    feedLoop_queue (stepNext_rx hrx), hchannel, if_neg (by simp [State.atChannelData]), hloop]

/-- Settles O52: after the frame's head the cursor is at `k * 8`, and the data is stored from there on. -/
theorem channelFrameStoresItsData : Obligations.ChannelFrameStoresItsData := by
  intro s k t0 t1 ds hs hopen hwf hk hlit hrx
  obtain ⟨hfeed, hempty⟩ := exec_feed_channelFrame hs hopen hk hlit hrx
  obtain ⟨hstored, hkept⟩ :=
    stepAll_literals_data_storedFrom ds (s.atChannelData k t1 ds) rfl (startAddress_le_maxAddress hk) hwf hlit
  exact ⟨_, hfeed, hempty, rfl, hstored, hkept⟩

end Sys2Proof.Machine
end

section
/-!
PROOF. The register file's four properties (spec/41_channel_buffer.md, R105). Away from INIT and SET_OFFSET the register
file changes only where a storing row runs with the cursor in the window: `StoresInWindow`, of a row and of the rows
that the bytes of a feed select.
-/

namespace Sys2Proof.Machine

/-! ## A storing row with the cursor in the window -/

/-- `i` is a row that runs the address-write step (R79, R80), and in `s` that step stores (R86). -/
def StoresInWindow (i : Instr) (s : State) : Prop :=
  (∃ v, i = .dataLit v ∨ i = .escVal v) ∧ ∃ a, s.cursorPlace = .inside a

theorem State.addressWrite_buf_of_outside {s : State} (h : ∀ a, s.cursorPlace ≠ .inside a) (v : Byte) :
    (s.addressWrite v).buf = s.buf := by
  cases hp : s.cursorPlace with
  | below => rw [State.addressWrite_below hp, State.advanceCursor_buf]
  | inside a => exact absurd hp (h a)
  | above => rw [State.addressWrite_above hp, State.setState_buf]

theorem wireEffect_buf {i : Instr} {s : State} (h : ¬ StoresInWindow i s) : (wireEffect i s).buf = s.buf := by
  cases i
  case cmdCh k => simp only [wireEffect, cmdChEffect]; split <;> rfl
  case dataLit v =>
    exact State.addressWrite_buf_of_outside (fun a ha => h ⟨⟨v, .inl rfl⟩, a, ha⟩) v
  case escVal x =>
    exact State.addressWrite_buf_of_outside (s := s.setState .data) (fun a ha => h ⟨⟨x, .inr rfl⟩, a, ha⟩) _
  all_goals rfl

theorem stepNext_buf {s : State} {x : RxByte} (h : ¬ StoresInWindow (decodeByte s.state x.byte) s) :
    (stepNext s x).buf = s.buf :=
  wireEffect_buf (s := s.takeByte x s.rx.tail) h

/-- What every byte keeps that does not store in the window, a list of bytes keeps, unless one of them does. -/
theorem stepAll_keeps_or_storesInWindow {P : State → Prop}
    (hstep : ∀ s x, P s → ¬ StoresInWindow (decodeByte s.state x.byte) s → P (stepNext s x))
    (xs : List RxByte) {s : State} (hs : P s) :
    P (stepAll xs s) ∨ ∃ before x after, xs = before ++ x :: after ∧
      StoresInWindow (decodeByte (stepAll before s).state x.byte) (stepAll before s) := by
  induction xs generalizing s with
  | nil => exact .inl hs
  | cons y ys ih =>
    by_cases hy : StoresInWindow (decodeByte s.state y.byte) s
    · exact .inr ⟨[], y, ys, rfl, hy⟩
    · obtain hkept | ⟨before, x, after, rfl, hx⟩ := ih (hstep s y hs hy)
      · exact .inl hkept
      · exact .inr ⟨y :: before, x, after, rfl, hx⟩

/-! ## What a host operation runs -/

/-- An optional feed is the steps on the bytes it takes; it takes some only with the pump and from an open source. -/
theorem exists_taken_pumpIf (pump : Bool) (s : State) :
    ∃ taken, pumpIf pump s = stepAll taken s ∧ s.rx = taken ++ (stepAll taken s).rx ∧
      (taken = [] ∨ pump = true ∧ s.linkOpen = true) := by
  by_cases hpump : pump = true ∧ s.linkOpen = true
  · obtain ⟨taken, hrun, heq⟩ := exists_feedRun s.rx false s rfl
    refine ⟨taken, ?_, hrun.queue, .inr hpump⟩
    rw [pumpIf, if_pos hpump.1, feedAvailable_open hpump.2, heq]
  · refine ⟨[], ?_, rfl, .inl rfl⟩
    unfold pumpIf
    split
    · next hp => rw [feedAvailable_closed (Bool.eq_false_of_not_eq_true fun hopen => hpump ⟨hp, hopen⟩)]; rfl
    · rfl

/-- Apart from INIT and SET_OFFSET, a host operation leaves the buffer and the queue its feed, if any, leaves (R105). -/
theorem exec_host_buffer {i : Instr} {s t : State} (hw : isWire i = false)
    (hi : ∀ n, i ≠ .init n ∧ i ≠ .setOffset n) (h : exec i s = .next t) :
    t.capacity = s.capacity ∧ t.buf = (pumpIf (feeds i) s).buf ∧ t.rx = (pumpIf (feeds i) s).rx := by
  rw [← pumpIf_capacity (feeds i) s]
  cases i
  case init n => exact absurd rfl (hi n).1
  case setOffset n => exact absurd rfl (hi n).2
  case feed | read | getOffset | getCount | isIdle | setTimeout | getTimeout | spAvail | readSpOpcode | readSpData
      | shutdown =>
    obtain ⟨-, rfl⟩ := afterInit_eq_next.1 h
    exact ⟨rfl, rfl, rfl⟩
  all_goals cases hw

/-- The register file such an operation leaves is that of the steps on the bytes it takes. -/
theorem exists_taken_exec_host {i : Instr} {s t : State} (hw : isWire i = false)
    (hi : ∀ n, i ≠ .init n ∧ i ≠ .setOffset n) (h : exec i s = .next t) :
    ∃ taken, s.rx = taken ++ t.rx ∧ t.buf = (stepAll taken s).buf ∧
      (taken = [] ∨ feeds i = true ∧ s.linkOpen = true) := by
  obtain ⟨-, hbuf, hrx⟩ := exec_host_buffer hw hi h
  obtain ⟨taken, hpump, hqueue, htaken⟩ := exists_taken_pumpIf (feeds i) s
  rw [hpump] at hbuf hrx
  exact ⟨taken, hrx ▸ hqueue, hbuf, htaken⟩

/-! ## SET_OFFSET (R101) and reading a zeroed buffer -/

theorem exec_setOffset {s : State} (hs : s.initialised = true) (o : Nat) :
    exec (.setOffset o) s = .next ((leaveFrame ((s.writeOffset o).zeroBuffer)).setResult .none) :=
  afterInit_of_initialised hs _

theorem State.readEntry_of_buf_nil {s : State} (h : s.buf = []) (i : Nat) : s.readEntry i = 0#8 := by
  rw [State.readEntry, h, Memory.read_nil, ite_self]

theorem exec_setOffset_buffer {s t : State} {o : Nat} (h : exec (.setOffset o) s = .next t) :
    t.capacity = s.capacity ∧ t.buf = [] := by
  obtain ⟨-, rfl⟩ := afterInit_eq_next.1 h
  rw [State.setResult_capacity, leaveFrame_capacity, State.setResult_buf, leaveFrame_buf]
  exact ⟨rfl, rfl⟩

/-! ## What any instruction does to the buffer -/

/-- `i` feeds in `s`, the source delivers, and a byte taken from the queue, of which `t` has the rest, selects a row
that stores in the window. -/
def FeedStoresInWindow (i : Instr) (s t : State) : Prop :=
  feeds i = true ∧ s.linkOpen = true ∧ ∃ before x after, s.rx = before ++ x :: (after ++ t.rx) ∧
    StoresInWindow (decodeByte (stepAll before s).state x.byte) (stepAll before s)

theorem exec_capacity {i : Instr} {s t : State} (hi : ∀ n, i ≠ .init n) (h : exec i s = .next t) :
    t.capacity = s.capacity := by
  cases hw : isWire i with
  | true => rw [eq_wireEffect_of_exec_next hw h, wireEffect_capacity]
  | false =>
    by_cases ho : ∃ o, i = .setOffset o
    · obtain ⟨o, rfl⟩ := ho
      exact (exec_setOffset_buffer h).1
    · exact (exec_host_buffer hw (fun n => ⟨hi n, fun hn => ho ⟨n, hn⟩⟩) h).1

/-- Apart from INIT and SET_OFFSET, the register file changes only by a row that stores in the window: the instruction
itself, or the row of a byte that its feed takes. -/
theorem exec_buf_or_storesInWindow {i : Instr} {s t : State} (hi : ∀ n, i ≠ .init n ∧ i ≠ .setOffset n)
    (h : exec i s = .next t) :
    t.buf = s.buf ∨ StoresInWindow i s ∨ FeedStoresInWindow i s t := by
  cases hw : isWire i with
  | true =>
    by_cases hstores : StoresInWindow i s
    · exact .inr (.inl hstores)
    · exact .inl (by rw [eq_wireEffect_of_exec_next hw h, wireEffect_buf hstores])
  | false =>
    obtain ⟨taken, hqueue, hbuf, htaken⟩ := exists_taken_exec_host hw hi h
    rw [hbuf]
    refine (stepAll_keeps_or_storesInWindow (P := fun u => u.buf = s.buf)
      (fun u x hu hx => (stepNext_buf hx).trans hu) taken rfl).imp_right ?_
    rintro ⟨before, x, after, rfl, hx⟩
    obtain ⟨hfeeds, hopen⟩ := htaken.resolve_left (List.append_ne_nil_of_right_ne_nil _ (List.cons_ne_nil _ _))
    exact .inr ⟨hfeeds, hopen, before, x, after, by rw [hqueue, List.append_assoc, List.cons_append], hx⟩

/-- Entries that all read 0 stay so, but for a row that stores in the window. -/
theorem exec_zero_or_storesInWindow {i : Instr} {s t : State} (h : exec i s = .next t)
    (hzero : ∀ j, s.readEntry j = 0#8) :
    (∀ j, t.readEntry j = 0#8) ∨ StoresInWindow i s ∨ FeedStoresInWindow i s t := by
  by_cases hi : ∀ n, i ≠ .init n ∧ i ≠ .setOffset n
  · refine (exec_buf_or_storesInWindow hi h).imp_left fun hbuf j => ?_
    rw [State.readEntry_congr (exec_capacity (fun n => (hi n).1) h) hbuf, hzero]
  · left
    obtain ⟨n, hn⟩ := not_forall.1 hi
    obtain rfl | rfl : i = .init n ∨ i = .setOffset n := by simpa only [not_and_or, not_not] using hn
    · cases h
      exact State.readEntry_of_buf_nil (State.initialise_buf s n)
    · exact State.readEntry_of_buf_nil (exec_setOffset_buffer h).2

/-- Settles O44: each of R105's four properties is the lemma above of its operation. -/
theorem bufferPropertiesHold : Obligations.BufferPropertiesHold := by
  refine ⟨fun i s t hi h => exec_capacity hi h, ?afterSetOffset, ?zeroUntilStored, ?oneWriter,
    fun j s hs => exec_read_noPump hs j⟩
  case afterSetOffset =>
    intro o j s hs
    refine ⟨_, exec_setOffset hs o, ?_⟩
    rw [exec_read_noPump (by simpa using hs),
      State.readEntry_of_buf_nil (exec_setOffset_buffer (exec_setOffset hs o)).2]
  case zeroUntilStored =>
    intro i s t h hzero
    obtain hkept | hrow | ⟨hfeeds, hopen, before, x, after, hqueue, ⟨v, hv⟩, a, ha⟩ :=
      exec_zero_or_storesInWindow h hzero
    · exact .inl hkept
    · exact .inr (.inl hrow)
    · exact .inr (.inr ⟨hfeeds, hopen, before, x, after, v, a, hqueue, hv, ha⟩)
  case oneWriter =>
    intro i s t hw hi h
    obtain ⟨taken, hqueue, hbuf, htaken⟩ := exists_taken_exec_host hw hi h
    exact ⟨taken, hqueue, hbuf, fun hfeeds => htaken.resolve_right (by simp [hfeeds])⟩

end Sys2Proof.Machine
end

section
/-!
PROOF. The idle monitor (spec/42_idle_monitor.md, R111): the model's difference on naturals is the modular one on
integers, and IS_IDLE latches what it answers.
-/

namespace Sys2Proof.Machine

/-! ## The elapsed time -/

theorem natCast_subMod {m : Nat} (hm : 0 < m) (a b : Nat) :
    (subMod m a b : Int) = ((a : Int) - (b : Int)) % (m : Int) := by
  have hle : b % m ≤ m := (Nat.mod_lt b hm).le
  calc (subMod m a b : Int)
      = ((a : Int) + ((m : Int) - (b : Int) % (m : Int))) % (m : Int) := by
        rw [subMod]; push_cast [Nat.cast_sub hle]; rfl
    _ = ((a : Int) - (b : Int) % (m : Int) + (m : Int)) % (m : Int) := by congr 1; ring
    _ = ((a : Int) - (b : Int)) % (m : Int) := by rw [Int.add_emod_right, Int.sub_emod_emod]

theorem State.natCast_elapsed (s : State) :
    (s.elapsed : Int) = ((s.sampleNow : Int) - (s.lastActivity : Int)) % (2 ^ s.cfg.timeWidth : Int) := by
  rw [State.elapsed, natCast_subMod s.cfg.timeModulus_pos, Config.timeModulus, Nat.cast_pow, Nat.cast_ofNat]

/-! ## The answer and its latch -/

theorem State.idleAnswer_of_idleFlag {s : State} (h : s.idleFlag = true) : s.idleAnswer = true := by
  rw [State.idleAnswer, h, Bool.true_or]

theorem State.idleAnswer_of_not_idleFlag {s : State} (h : s.idleFlag = false) :
    s.idleAnswer = decide (s.timeout ≤ s.elapsed) := by
  rw [State.idleAnswer, h, Bool.false_or]

/-- An answer that is the flag itself latches nothing. -/
theorem State.latchIdle_of_idleAnswer_eq {s : State} (h : s.idleAnswer = s.idleFlag) : s.latchIdle = s := by
  rw [State.latchIdle, h]

theorem exec_isIdle {s : State} (hs : s.initialised = true) :
    exec .isIdle s = .next (s.latchIdle.setResult (.bit s.idleAnswer)) :=
  afterInit_of_initialised hs _

/-- Where the answer is the flag itself, IS_IDLE writes the result alone. -/
theorem exec_isIdle_of_idleAnswer_eq {s : State} (hs : s.initialised = true) (h : s.idleAnswer = s.idleFlag) :
    exec .isIdle s = .next { s with result := .bit s.idleFlag } := by
  rw [exec_isIdle hs, State.latchIdle_of_idleAnswer_eq h, h]; rfl

/-- The flag set: IS_IDLE answers 1 and changes nothing (R111). -/
theorem exec_isIdle_of_idleFlag {s : State} (hs : s.initialised = true) (hflag : s.idleFlag = true) :
    exec .isIdle s = .next { s with result := .bit true } := by
  rw [exec_isIdle_of_idleAnswer_eq hs (by rw [State.idleAnswer_of_idleFlag hflag, hflag]), hflag]

/-- The flag clear and the timeout reached: IS_IDLE answers 1 and latches (R111). -/
theorem exec_isIdle_of_timeout_le {s : State} (hs : s.initialised = true) (hflag : s.idleFlag = false)
    (h : s.timeout ≤ s.elapsed) : exec .isIdle s = .next { s with idleFlag := true, result := .bit true } := by
  have hanswer : s.idleAnswer = true := by rw [State.idleAnswer_of_not_idleFlag hflag, decide_eq_true h]
  rw [exec_isIdle hs, State.latchIdle, hanswer]; rfl

/-- The flag clear and the timeout not reached: IS_IDLE answers 0 and changes nothing (R111). -/
theorem exec_isIdle_of_elapsed_lt {s : State} (hs : s.initialised = true) (hflag : s.idleFlag = false)
    (h : s.elapsed < s.timeout) : exec .isIdle s = .next { s with result := .bit false } := by
  have hanswer : s.idleAnswer = s.idleFlag := by
    rw [State.idleAnswer_of_not_idleFlag hflag, hflag, decide_eq_false (Nat.not_le.2 h)]
  rw [exec_isIdle_of_idleAnswer_eq hs hanswer, hflag]

/-- Settles O33: the integers' modular difference is the model's elapsed time, on which the three cases of IS_IDLE
turn. -/
theorem isIdleComparesAndLatches : Obligations.IsIdleComparesAndLatches := by
  intro s elapsed hs helapsed
  obtain rfl : elapsed = s.elapsed := by exact_mod_cast helapsed.trans s.natCast_elapsed.symm
  exact ⟨exec_isIdle_of_idleFlag hs, exec_isIdle_of_timeout_le hs, exec_isIdle_of_elapsed_lt hs⟩

end Sys2Proof.Machine
end

section
/-!
PROOF. The encoding (spec/30_encoding.md): the word of a well-formed instruction decodes to it, and what the decoder
answers is well-formed and of the receive state.
-/

namespace Sys2Proof.Machine

/-! ## The byte ranges of R58 as propositions -/

theorem reachesDispatch_iff {b : Byte} :
    reachesDispatch b = true ↔ b ≠ Config.padByte ∧ b ≠ Config.startByte := by
  simp [reachesDispatch]

theorem isUnrecognised_iff {b : Byte} :
    isUnrecognised b = true ↔
      (b ≠ Config.padByte ∧ b ≠ Config.startByte) ∧ b ≠ Config.specialByte ∧ b < Config.minChannelByte := by
  simp [isUnrecognised, reachesDispatch_iff, and_assoc]

/-- The byte of a channel command with a group other than 0 is above 0x80. -/
theorem minChannelByte_lt_channelByte {k : BitVec 7} (hk : k ≠ 0#7) : Config.minChannelByte < channelByte k := by
  have hpos : k.toNat ≠ 0 := fun h => hk (BitVec.eq_of_toNat_eq h)
  rw [BitVec.lt_def, toNat_channelByte]
  exact Nat.lt_add_of_pos_right (Nat.pos_of_ne_zero hpos)

/-- Above 0x80 a byte is the one of its group, and the group is not 0. -/
theorem channelByte_groupNumber {b : Byte} (h : Config.minChannelByte < b) :
    groupNumber b ≠ 0#7 ∧ channelByte (groupNumber b) = b := by
  have hlt : 0x80 < b.toNat := BitVec.lt_def.1 h
  have hk : (groupNumber b).toNat = b.toNat - 0x80 := toNat_groupNumber hlt.le
  constructor
  · intro h0
    rw [h0, BitVec.toNat_zero] at hk
    omega
  · apply BitVec.eq_of_toNat_eq
    rw [toNat_channelByte, hk]
    omega

/-! ## From the instruction to the word and back -/

/-- Settles O1: each row's byte selects it in the row's state, and each operation's request names it. -/
theorem decodeOfEncodeIsTheInstruction : Obligations.DecodeOfEncodeIsTheInstruction := by
  intro c st i hwf hread
  cases i
  case pad => exact congrArg Decoded.instr (decodeByte_padByte st)
  case start => exact congrArg Decoded.instr (decodeByte_startByte st)
  case init n => exact if_pos hwf
  case read a pump => exact if_pos hwf
  case setOffset o => exact if_pos hwf
  case setTimeout ms => exact if_pos hwf
  case feed | getOffset | getCount | isIdle | getTimeout | spAvail | readSpOpcode | readSpData | shutdown => rfl
  all_goals
    obtain rfl := eq_of_beq hread
    refine congrArg Decoded.instr ?_
  case initSkip b =>
    obtain ⟨hpad, hstart⟩ := reachesDispatch_iff.1 hwf
    exact decodeByte_init hpad hstart
  case cmdCh0 => exact decodeByte_command_minChannelByte
  case cmdCh k =>
    have hk : k ≠ 0#7 := bne_iff_ne.1 hwf
    rw [decodeByte_command_channel (minChannelByte_lt_channelByte hk), groupNumber_channelByte]
  case cmdSpecial => exact decodeByte_command_specialByte
  case cmdUnk b =>
    obtain ⟨⟨hpad, hstart⟩, hsp, hlow⟩ := isUnrecognised_iff.1 hwf
    exact decodeByte_command_unknown hpad hstart hlow hsp
  case dataEsc => exact decodeByte_data_escapeByte
  case dataLit v =>
    obtain ⟨hpad, hstart, hesc⟩ := isLiteral_iff.1 hwf
    exact decodeByte_data_literal hpad hstart hesc
  case escVal x =>
    obtain ⟨hpad, hstart⟩ := reachesDispatch_iff.1 hwf
    exact decodeByte_escape hpad hstart
  case spOpcode op =>
    obtain ⟨hpad, hstart⟩ := reachesDispatch_iff.1 hwf
    exact decodeByte_specialOpcode hpad hstart
  case spEsc => exact decodeByte_specialData_escapeByte
  case spData d =>
    obtain ⟨hpad, hstart, hesc⟩ := isLiteral_iff.1 hwf
    exact decodeByte_specialData_literal hpad hstart hesc
  case spEscVal x =>
    obtain ⟨hpad, hstart⟩ := reachesDispatch_iff.1 hwf
    exact decodeByte_specialEscape hpad hstart
  case doneSkip b =>
    obtain ⟨hpad, hstart⟩ := reachesDispatch_iff.1 hwf
    exact decodeByte_complete hpad hstart

/-! ## From the word to the instruction and back -/

/-- `i` is what the byte `b` may stand for in `st`: well-formed, of a row for `st`, with `b` as its word. -/
structure ReadFrom (c : Config) (st : DecState) (b : Byte) (i : Instr) : Prop where
  wf     : i.wf c = true
  readIn : i.readIn st = true
  encode : encode i = .byte b

/-- The rows of `Command`: the bytes below 0x80 but the special one are unknown, 0x80 and the ones above it channels. -/
theorem readFrom_decodeByte_command (c : Config) {b : Byte} (hpad : b ≠ Config.padByte)
    (hstart : b ≠ Config.startByte) : ReadFrom c .command b (decodeByte .command b) := by
  have hb : reachesDispatch b = true := reachesDispatch_iff.2 ⟨hpad, hstart⟩
  have hsplit : b < Config.minChannelByte ∨ b = Config.minChannelByte ∨ Config.minChannelByte < b := by bv_omega
  obtain hlow | rfl | hchannel := hsplit
  · by_cases hsp : b = Config.specialByte
    · subst hsp; exact ⟨rfl, rfl, rfl⟩
    · rw [decodeByte_command_unknown hpad hstart hlow hsp]
      exact ⟨isUnrecognised_iff.2 ⟨⟨hpad, hstart⟩, hsp, hlow⟩, rfl, rfl⟩
  · exact ⟨rfl, rfl, rfl⟩
  · obtain ⟨hk, hbyte⟩ := channelByte_groupNumber hchannel
    rw [decodeByte_command_channel hchannel]
    exact ⟨bne_iff_ne.2 hk, rfl, congrArg InputWord.byte hbyte⟩

/-- A byte selects a row that stands for the receive state and whose word it is (R58). -/
theorem readFrom_decodeByte (c : Config) (st : DecState) (b : Byte) : ReadFrom c st b (decodeByte st b) := by
  by_cases hpad : b = Config.padByte
  · subst hpad; exact ⟨rfl, rfl, rfl⟩
  by_cases hstart : b = Config.startByte
  · subst hstart; exact ⟨rfl, rfl, rfl⟩
  have hb : reachesDispatch b = true := reachesDispatch_iff.2 ⟨hpad, hstart⟩
  cases st
  case init => rw [decodeByte_init hpad hstart]; exact ⟨hb, rfl, rfl⟩
  case command => exact readFrom_decodeByte_command c hpad hstart
  case data =>
    by_cases hesc : b = Config.escapeByte
    · subst hesc; exact ⟨rfl, rfl, rfl⟩
    · rw [decodeByte_data_literal hpad hstart hesc]
      exact ⟨isLiteral_iff.2 ⟨hpad, hstart, hesc⟩, rfl, rfl⟩
  case specialOpcode => rw [decodeByte_specialOpcode hpad hstart]; exact ⟨hb, rfl, rfl⟩
  case specialData =>
    by_cases hesc : b = Config.escapeByte
    · subst hesc; exact ⟨rfl, rfl, rfl⟩
    · rw [decodeByte_specialData_literal hpad hstart hesc]
      exact ⟨isLiteral_iff.2 ⟨hpad, hstart, hesc⟩, rfl, rfl⟩
  case specialEscape => rw [decodeByte_specialEscape hpad hstart]; exact ⟨hb, rfl, rfl⟩
  case escape => rw [decodeByte_escape hpad hstart]; exact ⟨hb, rfl, rfl⟩
  case complete => rw [decodeByte_complete hpad hstart]; exact ⟨hb, rfl, rfl⟩

/-- An operand that is taken fits its width, and the operation is the one it goes with. -/
theorem withOperand_eq_instr {fits : Bool} {i j : Instr} :
    withOperand fits j = .instr i ↔ fits = true ∧ j = i := by
  unfold withOperand
  split <;> simp_all

/-- A request names a host operation whose operand fits its width (R63, R130). -/
theorem wf_of_decodeRequest {c : Config} {r : OpRequest} {i : Instr} (h : decodeRequest c r = .instr i) :
    isWire i = false ∧ i.wf c = true := by
  unfold decodeRequest at h
  split at h
  case h_1 | h_3 | h_4 | h_8 =>
    obtain ⟨hfits, rfl⟩ := withOperand_eq_instr.1 h
    exact ⟨rfl, hfits⟩
  case h_14 => cases h
  all_goals
    cases h
    exact ⟨rfl, rfl⟩

/-- A host operation is asked for in any receive state. -/
theorem readIn_of_host {i : Instr} (h : isWire i = false) (st : DecState) : i.readIn st = true := by
  cases i
  case init | feed | read | setOffset | getOffset | getCount | isIdle | setTimeout | getTimeout | spAvail | readSpOpcode
      | readSpData | shutdown => rfl
  all_goals cases h

/-- Settles O2: a byte by its row, a request by its id. -/
theorem decodedInstructionsAreWellFormed : Obligations.DecodedInstructionsAreWellFormed := by
  refine ⟨fun c st w i h => ?_, fun st b => (readFrom_decodeByte Config.build st b).encode⟩
  cases w with
  | byte b =>
    obtain rfl : decodeByte st b = i := Decoded.instr.inj h
    obtain ⟨hwf, hread, -⟩ := readFrom_decodeByte c st b
    exact ⟨hwf, hread⟩
  | request r =>
    obtain ⟨hhost, hwf⟩ := wf_of_decodeRequest h
    exact ⟨hwf, readIn_of_host hhost st⟩

/-! ## Channel groups (R54) and the words of the tables -/

/-- Settles O5: `MAX_ADDRESS >> 3` is 31 or 8191, and `k * 8` with `k` up to it is at most `MAX_ADDRESS - 7`. -/
theorem acceptedGroupsFitTheAddressRange : Obligations.AcceptedGroupsFitTheAddressRange := by
  intro c k
  have hk : k.toNat < 128 := k.isLt
  rw [groupAccepted, decide_eq_true_eq, startAddress]
  cases hw : c.addrWidth with
  | w8 =>
    rw [Config.maxAddress_of_w8 hw]
    refine ⟨fun _ => Iff.rfl, fun h => (nomatch h), fun h => ⟨rfl, ?_⟩⟩
    omega
  | w16 =>
    rw [Config.maxAddress_of_w16 hw]
    refine ⟨fun h => (nomatch h), fun _ => ?_, fun h => ⟨rfl, ?_⟩⟩ <;> omega

/-- Settles O4: eight closed instances of the two tables. -/
theorem wordsFromTheTablesDecode : Obligations.WordsFromTheTablesDecode := by
  unfold Obligations.WordsFromTheTablesDecode
  decide

/-- Settles O11: the request's id alone selects the operation; the operands taken are those that fit. -/
theorem requestFieldsAnOperationLacksAreIgnored : Obligations.RequestFieldsAnOperationLacksAreIgnored := by
  intro c arg pump
  refine ⟨rfl, rfl, rfl, rfl, rfl, rfl, rfl, rfl, rfl, fun h => ?address, fun h => ?time⟩
  case address =>
    have hfits : fitsAddress c arg = true := decide_eq_true h
    exact ⟨if_pos hfits, if_pos hfits⟩
  case time =>
    have hfits : fitsTime c arg = true := decide_eq_true h
    exact if_pos hfits

end Sys2Proof.Machine
end

section
/-!
PROOF. What an instruction that answers has done, said once (`Answers`), and what the rows of the wire leave unchanged
(spec/40_byte_decoder.md, R10's "written by" column).
-/

namespace Sys2Proof.Machine

/-! ## What an instruction answers -/

/-- `i` run in `s` leaves `t`: a row its effect, INIT the reset, SET_OFFSET a zeroed buffer outside a frame; every other
host operation its feed, if any, a result, and the register, flag or link it is named for. -/
inductive Answers : Instr → State → State → Prop
  | row {i : Instr} {s : State} (hw : isWire i = true) : Answers i s (wireEffect i s)
  | init (n : Nat) (s : State) : Answers (.init n) s (s.initialise n)
  | setOffset (o : Nat) (s : State) :
      Answers (.setOffset o) s ((leaveFrame ((s.writeOffset o).zeroBuffer)).setResult .none)
  | query {i : Instr} {s : State} (hw : isWire i = false) (r : Result) :
      Answers i s ((pumpIf (feeds i) s).setResult r)
  | isIdle (s : State) : Answers .isIdle s (s.latchIdle.setResult (.bit s.idleAnswer))
  | setTimeout (ms : Nat) (s : State) : Answers (.setTimeout ms) s ((s.writeTimeout ms).setResult .none)
  | readSpData (s : State) : Answers .readSpData s (s.clearPending.setResult (.byte s.spData))
  | shutdown (s : State) : Answers .shutdown s ((s.setLink false).setResult .none)

/-- A next state of `exec` is one that the instruction answers. -/
theorem answers_of_exec_next {i : Instr} {s t : State} (h : exec i s = .next t) : Answers i s t := by
  cases hw : isWire i with
  | true => rw [eq_wireEffect_of_exec_next hw h]; exact .row hw
  | false =>
    cases i
    case init n => cases h; exact .init n s
    case setOffset o => obtain ⟨-, rfl⟩ := afterInit_eq_next.1 h; exact .setOffset o s
    case isIdle => obtain ⟨-, rfl⟩ := afterInit_eq_next.1 h; exact .isIdle s
    case setTimeout ms => obtain ⟨-, rfl⟩ := afterInit_eq_next.1 h; exact .setTimeout ms s
    case readSpData => obtain ⟨-, rfl⟩ := afterInit_eq_next.1 h; exact .readSpData s
    case shutdown => obtain ⟨-, rfl⟩ := afterInit_eq_next.1 h; exact .shutdown s
    case feed | read | getOffset | getCount | getTimeout | spAvail | readSpOpcode =>
      obtain ⟨-, rfl⟩ := afterInit_eq_next.1 h
      exact .query hw _
    all_goals cases hw

/-- Without a feed, no byte is taken. -/
theorem pumpIf_false (s : State) : pumpIf false s = s := rfl

/-! ## The rows of the wire, register by register -/

/-- A row that runs the address-write step runs it in `Data`'s place, on the literal or the shifted byte. -/
theorem exists_addressWrite_of_storing {i : Instr} (hi : ∃ v, i = .dataLit v ∨ i = .escVal v) (s : State) :
    ∃ st v, wireEffect i s = ((s.setState st).addressWrite v).setStop false := by
  obtain ⟨v, rfl | rfl⟩ := hi
  · exact ⟨s.state, v, rfl⟩
  · exact ⟨.data, escapedValue v, rfl⟩

/-- Off the window the address-write step is no activity (R110). -/
theorem State.addressWrite_idleMonitor_of_outside {s : State} (h : ∀ a, s.cursorPlace ≠ .inside a) (v : Byte) :
    (s.addressWrite v).lastActivity = s.lastActivity ∧ (s.addressWrite v).idleFlag = s.idleFlag := by
  cases hp : s.cursorPlace with
  | below =>
    rw [State.addressWrite_below hp]
    exact ⟨State.advanceCursor_lastActivity s, State.advanceCursor_idleFlag s⟩
  | inside a => exact absurd hp (h a)
  | above => rw [State.addressWrite_above hp]; exact ⟨rfl, rfl⟩

/-- Only a write in the window is activity (R115). -/
theorem wireEffect_idleMonitor {i : Instr} {s : State} (h : ¬ StoresInWindow i s) :
    (wireEffect i s).lastActivity = s.lastActivity ∧ (wireEffect i s).idleFlag = s.idleFlag := by
  by_cases hi : ∃ v, i = .dataLit v ∨ i = .escVal v
  · obtain ⟨st, v, heq⟩ := exists_addressWrite_of_storing hi s
    rw [heq]
    exact State.addressWrite_idleMonitor_of_outside (s := s.setState st) (fun a ha => h ⟨hi, a, ha⟩) v
  · cases i
    case cmdCh k => simp only [wireEffect, cmdChEffect]; split <;> exact ⟨rfl, rfl⟩
    case dataLit v => exact absurd ⟨v, .inl rfl⟩ hi
    case escVal x => exact absurd ⟨x, .inr rfl⟩ hi
    all_goals exact ⟨rfl, rfl⟩

/-- In the window or not, no row sets the idle flag. -/
theorem wireEffect_idleFlag_of_clear {i : Instr} {s : State} (h : s.idleFlag = false) :
    (wireEffect i s).idleFlag = false := by
  by_cases hi : StoresInWindow i s
  · obtain ⟨hstoring, a, ha⟩ := hi
    obtain ⟨st, v, heq⟩ := exists_addressWrite_of_storing hstoring s
    rw [heq, State.setStop_idleFlag, State.addressWrite_inside (s := s.setState st) ha, State.advanceCursor_idleFlag,
      State.recordActivity_idleFlag]
  · rw [(wireEffect_idleMonitor hi).2, h]

/-- Only a completed special command writes the mailbox (R120). -/
theorem wireEffect_mailbox {i : Instr} (hi : ∀ d, i ≠ .spData d ∧ i ≠ .spEscVal d) (s : State) :
    (wireEffect i s).spOpcode = s.spOpcode ∧ (wireEffect i s).spData = s.spData ∧
      (wireEffect i s).spPending = s.spPending := by
  cases i
  case cmdCh k => simp only [wireEffect, cmdChEffect]; split <;> exact ⟨rfl, rfl, rfl⟩
  case dataLit v => simp [wireEffect, dataLitEffect]
  case escVal x => simp [wireEffect, escValEffect]
  case spData d => exact absurd rfl (hi d).1
  case spEscVal x => exact absurd rfl (hi x).2
  all_goals exact ⟨rfl, rfl, rfl⟩

/-- Every other row has `stop = 0` (R22). -/
theorem wireEffect_stop {i : Instr} (hw : isWire i = true) (hi : ∀ d, i ≠ .spData d ∧ i ≠ .spEscVal d) (s : State) :
    (wireEffect i s).stop = false := by
  cases i
  case cmdCh k => simp only [wireEffect, cmdChEffect]; split <;> rfl
  case spData d => exact absurd rfl (hi d).1
  case spEscVal x => exact absurd rfl (hi x).2
  case init | feed | read | setOffset | getOffset | getCount | isIdle | setTimeout | getTimeout | spAvail | readSpOpcode
      | readSpData | shutdown => cases hw
  all_goals rfl

/-- SP.DATA and SP.ESCVAL complete a special command (R83, R84). -/
theorem exists_completeSpecial {i : Instr} (hi : ∃ d, i = .spData d ∨ i = .spEscVal d) (s : State) :
    ∃ d, wireEffect i s = s.completeSpecial d := by
  obtain ⟨d, rfl | rfl⟩ := hi
  · exact ⟨d, rfl⟩
  · exact ⟨escapedValue d, rfl⟩

/-- Only SP.OPCODE writes the holding register (R16). -/
theorem wireEffect_spOpcodeHold {i : Instr} (hi : ∀ op, i ≠ .spOpcode op) (s : State) :
    (wireEffect i s).spOpcodeHold = s.spOpcodeHold := by
  cases i
  case cmdCh k => simp only [wireEffect, cmdChEffect]; split <;> rfl
  case dataLit v => simp [wireEffect, dataLitEffect]
  case escVal x => simp [wireEffect, escValEffect]
  case spOpcode op => exact absurd rfl (hi op)
  all_goals rfl

/-- Only a channel command and the address-write step move the cursor (R12). -/
theorem wireEffect_cursor {i : Instr} (hzero : i ≠ .cmdCh0) (hchannel : ∀ k, i ≠ .cmdCh k)
    (hstoring : ∀ v, i ≠ .dataLit v ∧ i ≠ .escVal v) (s : State) : (wireEffect i s).cursor = s.cursor := by
  cases i
  case cmdCh0 => exact absurd rfl hzero
  case cmdCh k => exact absurd rfl (hchannel k)
  case dataLit v => exact absurd rfl (hstoring v).1
  case escVal x => exact absurd rfl (hstoring x).2
  all_goals rfl

/-- A row that stores stays in `Data` and moves the cursor on by one, or completes the frame. -/
theorem wireEffect_progress_of_storing {i : Instr} (hi : ∃ v, i = .dataLit v ∨ i = .escVal v) (s : State) :
    ((wireEffect i s).state = .data ∧ (wireEffect i s).cursor = s.cursor + 1 ∧ s.cursor ≠ s.cfg.maxAddress) ∨
      (wireEffect i s).state = .complete := by
  obtain ⟨st, v, heq⟩ := exists_addressWrite_of_storing hi s
  rw [heq]
  exact (State.addressWrite_progress (s.setState st) v).imp_right And.left

/-- A row leaves every entry but the one the cursor addresses. -/
theorem readEntry_wireEffect {s : State} {j : Nat} (hj : s.cursorPlace ≠ .inside j) (i : Instr) :
    (wireEffect i s).readEntry j = s.readEntry j := by
  by_cases hi : StoresInWindow i s
  · obtain ⟨st, v, heq⟩ := exists_addressWrite_of_storing hi.1 s
    rw [heq]
    exact State.readEntry_addressWrite_ne (s := s.setState st) hj v
  · exact State.readEntry_congr (wireEffect_capacity i s) (wireEffect_buf hi) j

/-! ## The frames of the rows -/

/-- Settles O23: the row is the address-write step, which leaves every entry but the one addressed. -/
theorem storingRowsFrame : Obligations.StoringRowsFrame := by
  intro i s t hi h
  have hw : isWire i = true := by obtain ⟨v, rfl | rfl⟩ := hi <;> rfl
  obtain rfl := eq_wireEffect_of_exec_next hw h
  obtain ⟨st, v, heq⟩ := exists_addressWrite_of_storing hi s
  refine ⟨fun a ha j hj => readEntry_wireEffect ?_ i, fun hout => ⟨fun j => readEntry_wireEffect (hout j) i, ?_⟩, ?rest⟩
  · rw [ha]
    exact fun h => hj (WindowPlace.inside.inj h).symm
  · exact wireEffect_idleMonitor fun ⟨_, a, ha⟩ => hout a ha
  case rest => simp [heq]

/-- Settles O24: such a row does not store, and each further register has its own rows. -/
theorem otherWireRowsFrame : Obligations.OtherWireRowsFrame := by
  intro i s t hw hi h
  obtain rfl := eq_wireEffect_of_exec_next hw h
  have hstores : ¬ StoresInWindow i s := fun ⟨⟨v, hv⟩, _⟩ => hv.elim (hi v).1 (hi v).2
  obtain ⟨hlast, hflag⟩ := wireEffect_idleMonitor hstores
  exact ⟨State.readEntry_congr (wireEffect_capacity i s) (wireEffect_buf hstores), hlast, hflag,
    wireEffect_cfg i s, wireEffect_offset i s, wireEffect_capacity i s, wireEffect_timeout i s,
    wireEffect_initialised i s, wireEffect_linkOpen i s, wireEffect_rx i s, wireEffect_now i s,
    wireEffect_agenda i s, wireEffect_result i s, wireEffect_freeCount i s,
    fun hmailbox => by simp [wireEffect_mailbox hmailbox s, wireEffect_stop hw hmailbox s],
    fun hhold => wireEffect_spOpcodeHold hhold s,
    fun hcursor => wireEffect_cursor hcursor.1 hcursor.2 hi s⟩

/-! ## The sequence of receive states (R88) -/

/-- The row a byte selects stands for the receive state. -/
theorem readIn_decodeByte (st : DecState) (b : Byte) : (decodeByte st b).readIn st = true :=
  (readFrom_decodeByte Config.build st b).readIn

/-- Settles O49: in a frame a byte's row either stores, and moves on by one below `MAX_ADDRESS`, or keeps the cursor,
for the channel commands are read in `Command`. -/
theorem cursorNeverDecreasesInAFrame : Obligations.CursorNeverDecreasesInAFrame := by
  intro s t b h hs ht
  obtain rfl := eq_wireEffect_of_exec_next (isWire_decodeByte _ _) h
  have hread := readIn_decodeByte s.state b
  generalize decodeByte s.state b = i at hread ht ⊢
  by_cases hi : ∃ v, i = .dataLit v ∨ i = .escVal v
  · obtain ⟨-, hmoved, htop⟩ | hcomplete := wireEffect_progress_of_storing hi s
    · rw [hmoved]
      exact ⟨.inr rfl, by omega⟩
    · rw [hcomplete] at ht
      cases ht
  · have hframe : s.state ≠ .command := by intro hst; rw [hst] at hs; cases hs
    have hkept : (wireEffect i s).cursor = s.cursor := by
      refine wireEffect_cursor ?_ ?_ (fun v => ⟨fun hv => hi ⟨v, .inl hv⟩, fun hv => hi ⟨v, .inr hv⟩⟩) s
      · rintro rfl; exact hframe (eq_of_beq hread)
      · rintro k rfl; exact hframe (eq_of_beq hread)
    rw [hkept]
    exact ⟨.inl rfl, id⟩

theorem cmdChEffect_of_accepted {k : BitVec 7} {s : State} (hk : groupAccepted s.cfg k = true) :
    cmdChEffect k s = ((s.setCursor (startAddress k)).setState .data).setStop false := if_pos hk

theorem cmdChEffect_of_rejected {k : BitVec 7} {s : State} (hk : ¬ groupAccepted s.cfg k = true) :
    cmdChEffect k s = (s.abortFrame .init).setStop false := if_neg hk

theorem cmdChEffect_state (k : BitVec 7) (s : State) :
    (cmdChEffect k s).state = .data ∨ (cmdChEffect k s).state = .init := by
  by_cases hk : groupAccepted s.cfg k = true
  · rw [cmdChEffect_of_accepted hk]; exact .inl rfl
  · rw [cmdChEffect_of_rejected hk]; exact .inr rfl

/-- Settles O50: the row's own receive state is the one left, and its effect names the one entered. -/
theorem statesAreEnteredOnlyAsTabled : Obligations.StatesAreEnteredOnlyAsTabled := by
  intro s t b h hne
  obtain rfl := eq_wireEffect_of_exec_next (isWire_decodeByte _ _) h
  have hwire := isWire_decodeByte s.state b
  obtain ⟨-, hread, hword⟩ := readFrom_decodeByte s.cfg s.state b
  generalize decodeByte s.state b = i at hwire hread hword hne ⊢
  cases i
  case pad | initSkip | doneSkip => exact absurd rfl hne
  case start =>
    obtain rfl : Config.startByte = b := InputWord.byte.inj hword
    simp [wireEffect, startEffect, Config.startByte]
  case cmdCh k =>
    rw [show s.state = .command from eq_of_beq hread]
    obtain hdata | hinit := cmdChEffect_state k s
    · simp [wireEffect, hdata]
    · simp [wireEffect, hinit]
  case dataLit v =>
    obtain ⟨hdata, -⟩ | hcomplete := wireEffect_progress_of_storing ⟨v, .inl rfl⟩ s
    · exact absurd (hdata.trans (eq_of_beq hread).symm) hne
    · simp [hcomplete]
  case escVal x =>
    rw [show s.state = .escape from eq_of_beq hread]
    obtain ⟨hdata, -⟩ | hcomplete := wireEffect_progress_of_storing ⟨x, .inr rfl⟩ s
    · simp [hdata]
    · simp [hcomplete]
  case cmdCh0 | cmdSpecial | cmdUnk | dataEsc | spOpcode | spEsc | spData | spEscVal =>
    have hs := eq_of_beq hread
    simp [wireEffect, cmdCh0Effect, cmdSpecialEffect, cmdUnkEffect, dataEscEffect, spOpcodeEffect, spEscEffect,
      spDataEffect, spEscValEffect, hs]
  all_goals cases hwire

/-- Settles O51: START goes to `Command` from every state, and there an accepted channel byte sets the cursor. -/
theorem startAndChannelResynchronise : Obligations.StartAndChannelResynchronise := by
  intro s k hs hk
  refine ⟨startEffect s, (((startEffect s).setCursor (startAddress k)).setState .data).setStop false, ?_, ?_, rfl, rfl⟩
  · rw [decodeByte_startByte]
    exact afterInit_of_initialised hs _
  · rw [exec_decodeByte, afterInit_of_initialised (s := startEffect s) hs,
      stepByte_channelByte (s := startEffect s) rfl hk]

/-! ## Single rows and pairs of rows -/

/-- Settles O14: START is tested before the state, and its effect is to go to `Command`. -/
theorem startRestartsTheFrame : Obligations.StartRestartsTheFrame :=
  ⟨decodeByte_startByte, fun _ hs => afterInit_of_initialised hs _⟩

theorem groupAccepted_iff {c : Config} {k : BitVec 7} : groupAccepted c k = true ↔ k.toNat ≤ c.maxAddress >>> 3 :=
  decide_eq_true_iff

/-- Settles O17: the two branches of the row on its range test. -/
theorem channelCommandSetsTheCursorOrAborts : Obligations.ChannelCommandSetsTheCursorOrAborts := by
  intro k s hs
  have hexec : exec (.cmdCh k) s = .next (cmdChEffect k s) := afterInit_of_initialised hs _
  rw [hexec]
  refine ⟨fun hle => ?accepted, fun hlt => ?rejected⟩
  case accepted => rw [cmdChEffect_of_accepted (groupAccepted_iff.2 hle)]; rfl
  case rejected => rw [cmdChEffect_of_rejected fun hk => Nat.not_le.2 hlt (groupAccepted_iff.1 hk)]; rfl

/-- The shifted byte, on integers (R55). -/
theorem toNat_escapedValue (x : Byte) : (escapedValue x).toNat = (x.toNat + 0x4E) % 256 :=
  BitVec.toNat_add x Config.escapeAddend

/-- Settles O21: ESC.VAL is the address-write step of the shifted byte from `Data`. -/
theorem escapedByteIsTheShiftedLiteral : Obligations.EscapedByteIsTheShiftedLiteral := by
  intro x s hs
  refine ⟨escapedValue x, escValEffect x s, toNat_escapedValue x, afterInit_of_initialised hs _,
    afterInit_of_initialised (s := { s with state := .data }) hs _, ?_⟩
  obtain ⟨hdata, -⟩ | hcomplete := wireEffect_progress_of_storing (i := .escVal x) ⟨x, .inr rfl⟩ s
  · exact fun h => nomatch hdata.symm.trans h
  · exact fun h => nomatch hcomplete.symm.trans h

/-- From `Data`, going to `Escape` and back is lowering `stop`. -/
theorem escValEffect_dataEscEffect {s : State} (hs : s.state = .data) (x : Byte) :
    escValEffect x (dataEscEffect s) = dataLitEffect (escapedValue x) s := by
  have hback : (dataEscEffect s).setState .data = s.setStop false := by
    rw [← hs]; rfl
  rw [escValEffect, hback, State.addressWrite_setStop]
  rfl

/-- Settles O22: the two rows in turn do what the literal does. -/
theorem escapePairEqualsTheLiteral : Obligations.EscapePairEqualsTheLiteral := by
  intro x s hs hdata
  refine ⟨dataEscEffect s, escValEffect x (dataEscEffect s), afterInit_of_initialised hs _,
    afterInit_of_initialised (s := dataEscEffect s) hs _, ?_⟩
  rw [escValEffect_dataEscEffect hdata]
  exact afterInit_of_initialised hs _

/-- Settles O25: the row of `SpecialOpcode`, and its effect. -/
theorem opcodeWaitsInTheHoldingRegister : Obligations.OpcodeWaitsInTheHoldingRegister :=
  ⟨fun _ hpad hstart => decodeByte_specialOpcode hpad hstart, fun _ _ hs => afterInit_of_initialised hs _⟩

/-- Settles O26: both rows complete the command, the second with the shifted byte. -/
theorem specialCommandCompletes : Obligations.SpecialCommandCompletes :=
  ⟨fun _ _ hs => afterInit_of_initialised hs _,
    fun x _ hs => ⟨escapedValue x, toNat_escapedValue x, afterInit_of_initialised hs _⟩⟩

end Sys2Proof.Machine
end

section
/-!
PROOF. The rules that hold of every instruction (spec/10_state.md, R10's "written by" column): who writes the
configuration registers, the idle monitor and `sp_pending`. Each is read off `Answers`.
-/

namespace Sys2Proof.Machine

/-- Settles O12: every arm of `exec` but INIT's is behind the gate. -/
theorem beforeInitNothingHasAMeaning : Obligations.BeforeInitNothingHasAMeaning := by
  intro i s hs hi
  cases i
  case init n => exact absurd rfl (hi n)
  all_goals exact afterInit_of_not hs _

/-- Settles O41: each such operation writes its result and the one register, flag or link it is named for. -/
theorem plainHostOperationsFrame : Obligations.PlainHostOperationsFrame := by
  intro i s t hw hfeeds hi h
  cases answers_of_exec_next h
  case row hrow => rw [hrow] at hw; cases hw
  case init n => exact absurd rfl (hi n).1
  case setOffset o => exact absurd rfl (hi o).2
  case query => rw [hfeeds, pumpIf_false]; exact ⟨State.readEntry_congr rfl rfl, by simp⟩
  case isIdle | setTimeout | readSpData | shutdown => exact ⟨State.readEntry_congr rfl rfl, by simp⟩

/-- Settles O45: of what an instruction may do, only INIT, SET_OFFSET and SET_TIMEOUT write these registers. -/
theorem configurationRegistersHaveOneWriter : Obligations.ConfigurationRegistersHaveOneWriter := by
  intro i s t h
  cases answers_of_exec_next h
  case init n => exact ⟨rfl, fun hi => absurd rfl (hi n).1, fun hi => absurd rfl (hi n).1⟩
  case setOffset o => exact ⟨by simp, fun hi => absurd rfl (hi o).2, by simp⟩
  case setTimeout ms => exact ⟨rfl, fun _ => rfl, fun hi => absurd rfl (hi ms).2⟩
  case row => simp
  case query => simp
  case isIdle | readSpData | shutdown => exact ⟨rfl, fun _ => rfl, fun _ => rfl⟩

/-! ## The idle monitor -/

/-- What every byte keeps that does not store in the window, a host operation's feed keeps, unless one does. -/
theorem pumpIf_keeps_or_storesInWindow {P : State → Prop}
    (hstep : ∀ s x, P s → ¬ StoresInWindow (decodeByte s.state x.byte) s → P (stepNext s x))
    {i : Instr} {s t : State} (hs : P s) (ht : t.rx = (pumpIf (feeds i) s).rx) :
    P (pumpIf (feeds i) s) ∨ FeedStoresInWindow i s t := by
  obtain ⟨taken, hpump, hqueue, htaken⟩ := exists_taken_pumpIf (feeds i) s
  rw [← hpump, ← ht] at hqueue
  rw [hpump]
  refine (stepAll_keeps_or_storesInWindow hstep taken hs).imp_right ?_
  rintro ⟨before, x, after, rfl, hx⟩
  obtain ⟨hfeeds, hopen⟩ := htaken.resolve_left (List.append_ne_nil_of_right_ne_nil _ (List.cons_ne_nil _ _))
  exact ⟨hfeeds, hopen, before, x, after, by rw [hqueue, List.append_assoc, List.cons_append], hx⟩

theorem stepNext_idleMonitor {s : State} {x : RxByte} (h : ¬ StoresInWindow (decodeByte s.state x.byte) s) :
    (stepNext s x).lastActivity = s.lastActivity ∧ (stepNext s x).idleFlag = s.idleFlag :=
  wireEffect_idleMonitor (s := s.takeByte x s.rx.tail) h

/-- Apart from INIT, the timestamp changes and the idle flag clears only by a row that stores in the window. -/
theorem exec_idleMonitor_or_storesInWindow {i : Instr} {s t : State} (hi : ∀ n, i ≠ .init n) (h : exec i s = .next t) :
    (t.lastActivity = s.lastActivity ∧ (s.idleFlag = true → t.idleFlag = true)) ∨
      StoresInWindow i s ∨ FeedStoresInWindow i s t := by
  cases answers_of_exec_next h
  case row =>
    by_cases hstores : StoresInWindow i s
    · exact .inr (.inl hstores)
    · obtain ⟨hlast, hflag⟩ := wireEffect_idleMonitor hstores
      exact .inl ⟨hlast, hflag.trans⟩
  case init n => exact absurd rfl (hi n)
  case setOffset o => simp
  case query r hw =>
    obtain ⟨hlast, hflag⟩ | hfeed := pumpIf_keeps_or_storesInWindow (i := i)
      (t := (pumpIf (feeds i) s).setResult r)
      (P := fun u => u.lastActivity = s.lastActivity ∧ u.idleFlag = s.idleFlag)
      (fun u x hu hx => ⟨(stepNext_idleMonitor hx).1.trans hu.1, (stepNext_idleMonitor hx).2.trans hu.2⟩)
      ⟨rfl, rfl⟩ rfl
    · exact .inl ⟨hlast, hflag.trans⟩
    · exact .inr (.inr hfeed)
  case isIdle => exact .inl ⟨rfl, State.idleAnswer_of_idleFlag⟩
  case setTimeout | readSpData | shutdown => exact .inl ⟨rfl, id⟩

/-- Settles O46: otherwise the idle monitor is as before, but for a flag that may be set. -/
theorem onlyAnInWindowWriteIsActivity : Obligations.OnlyAnInWindowWriteIsActivity := by
  intro i s t h hi hchange
  obtain ⟨hlast, hflag⟩ | hrow | ⟨hfeeds, hopen, before, x, after, hqueue, ⟨v, hv⟩, a, ha⟩ :=
    exec_idleMonitor_or_storesInWindow hi h
  · obtain ⟨hset, hclear⟩ | hmoved := hchange
    · rw [hflag hset] at hclear; cases hclear
    · exact absurd hlast hmoved
  · exact .inl hrow
  · exact .inr ⟨hfeeds, hopen, before, x, after, v, a, hqueue, hv, ha⟩

/-- Settles O47: no row sets the flag, so no feed does, and no other host operation writes it. -/
theorem onlyIsIdleSetsTheIdleFlag : Obligations.OnlyIsIdleSetsTheIdleFlag := by
  intro i s t h hi hclear hset
  cases answers_of_exec_next h
  case row => rw [wireEffect_idleFlag_of_clear hclear] at hset; cases hset
  case init n => exact absurd rfl (hi n)
  case query r hw =>
    have hkept : (pumpIf (feeds i) s).idleFlag = false :=
      pumpIf_keeps (P := fun u => u.idleFlag = false) (fun _ _ _ hu => wireEffect_idleFlag_of_clear hu) _ hclear
    rw [State.setResult_idleFlag, hkept] at hset
    cases hset
  case isIdle => rfl
  case setOffset | setTimeout | readSpData | shutdown => simp [hclear] at hset

/-! ## `sp_pending` -/

/-- No row clears `sp_pending` (R18). -/
theorem wireEffect_spPending_of_set {i : Instr} {s : State} (h : s.spPending = true) :
    (wireEffect i s).spPending = true := by
  by_cases hi : ∃ d, i = .spData d ∨ i = .spEscVal d
  · obtain ⟨d, heq⟩ := exists_completeSpecial hi s
    rw [heq, State.completeSpecial_spPending]
  · simp only [not_exists, not_or] at hi
    obtain ⟨-, -, hpending⟩ := wireEffect_mailbox hi s
    rw [hpending, h]

/-- Settles O48: a row completes a special command or leaves `stop` and the mailbox alone; outside the rows only SP_DATA
and INIT clear `sp_pending`. -/
theorem pendingIsSetWithStopAndClearedByTheRead : Obligations.PendingIsSetWithStopAndClearedByTheRead := by
  refine ⟨fun i s t hw h => ?stop, fun i s t h hset hclear => ?cleared⟩
  case stop =>
    obtain rfl := eq_wireEffect_of_exec_next hw h
    by_cases hi : ∃ d, i = .spData d ∨ i = .spEscVal d
    · obtain ⟨d, heq⟩ := exists_completeSpecial hi s
      simp [heq, hi]
    · have hi' := hi
      simp only [not_exists, not_or] at hi'
      simp [hi, wireEffect_stop hw hi' s, wireEffect_mailbox hi' s]
  case cleared =>
    cases answers_of_exec_next h
    case row => rw [wireEffect_spPending_of_set hset] at hclear; cases hclear
    case init n => exact .inr ⟨n, rfl⟩
    case query r hw =>
      have hkept : (pumpIf (feeds i) s).spPending = true :=
        pumpIf_keeps (P := fun u => u.spPending = true) (fun _ _ _ hu => wireEffect_spPending_of_set hu) _ hset
      rw [State.setResult_spPending, hkept] at hclear
      cases hclear
    case readSpData => exact .inl rfl
    case setOffset | isIdle | setTimeout | shutdown => simp [hset] at hclear

end Sys2Proof.Machine
end

section
/-!
PROOF. FEED byte by byte (spec/40_byte_decoder.md, R87; spec/43_special_command.md): the first byte and the rest, the
special-command round trip, and PAD bytes anywhere in the stream.
-/

namespace Sys2Proof.Machine

/-! ## The first byte of a feed -/

/-- Whether a byte was taken before plays no part in the state the loop leaves. -/
theorem feedLoop_fst (xs : List RxByte) (c c' : Bool) (s : State) : (feedLoop xs c s).1 = (feedLoop xs c' s).1 := by
  cases xs <;> rfl

/-- Once a byte has been taken, the loop says so. -/
theorem feedLoop_true_snd (xs : List RxByte) {s : State} (h : s.rx = xs) : (feedLoop xs true s).2 = true := by
  obtain ⟨taken, -, heq⟩ := exists_feedRun xs true s h
  rw [heq, Bool.true_or]

section
variable {s u : State} {x : RxByte} {more : List RxByte} (hopen : s.linkOpen = true) (hrx : s.rx = x :: more)
  (hu : stepNext s x = u)
include hopen hrx hu

/-- A feed whose first byte raises `stop` takes it alone. -/
theorem feedAvailable_of_stop (hstop : u.stop = true) : feedAvailable s = (u, true) := by
  rw [feedAvailable_open hopen, hrx, feedLoop_queue hrx, hu, if_pos hstop]

/-- A feed whose first byte does not goes on as a feed of what that byte leaves. -/
theorem feedAvailable_of_not_stop (hstop : u.stop = false) : feedAvailable s = ((feedAvailable u).1, true) := by
  have hnext : u.rx = more := hu ▸ stepNext_rx hrx
  have hlink : u.linkOpen = true := by rw [← hu, stepNext, stepByte_linkOpen]; exact hopen
  rw [feedAvailable_open hopen, hrx, feedLoop_queue hrx, hu, hstop, if_neg Bool.false_ne_true,
    feedAvailable_open hlink, hnext, feedLoop_fst more false true]
  exact Prod.ext rfl (feedLoop_true_snd more hnext)

end

/-- The row that the oldest byte selects answers the step on it. -/
theorem exec_decodeByte_takeByte {s : State} {x : RxByte} {more : List RxByte} (hs : s.initialised = true)
    (hrx : s.rx = x :: more) :
    exec (decodeByte s.state x.byte) { s with rx := more, now := x.now } = .next (stepNext s x) := by
  rw [stepNext, hrx, List.tail_cons]
  exact (exec_decodeByte (s.takeByte x more) x.byte).trans (afterInit_of_initialised hs _)

/-- Settles O39: the loop on the oldest byte, and the loop after it as a feed of its own. -/
theorem feedTakesTheOldestByteAndGoesOn : Obligations.FeedTakesTheOldestByteAndGoesOn := by
  intro s x more hs hopen hrx
  have hnext : (stepNext s x).initialised = true := by rw [stepNext, stepByte_initialised]; exact hs
  refine ⟨stepNext s x, exec_decodeByte_takeByte hs hrx, stepNext_rx hrx, fun hstop => ?_, fun hstop => ?_⟩
  · rw [exec_feed hs, feedAvailable_of_stop hopen hrx rfl hstop]; rfl
  · refine ⟨_, exec_feed hnext, ?_⟩
    rw [exec_feed hs, feedAvailable_of_not_stop hopen hrx rfl hstop]; rfl

/-- Settles O37: an empty queue and a closed source both leave the loop nothing to take. -/
theorem feedWithNothingAvailable : Obligations.FeedWithNothingAvailable := by
  intro s hs h
  have hnothing : feedAvailable s = (s, false) := h.elim feedAvailable_empty feedAvailable_closed
  rw [exec_feed hs, hnothing]; rfl

/-- A feed of one byte is the step on it, whether that raises `stop` or not. -/
theorem feedAvailable_singleton {s : State} {x : RxByte} (hopen : s.linkOpen = true) (hrx : s.rx = [x]) :
    feedAvailable s = (stepNext s x, true) := by
  cases hstop : (stepNext s x).stop with
  | true => exact feedAvailable_of_stop hopen hrx rfl hstop
  | false => rw [feedAvailable_of_not_stop hopen hrx rfl hstop, feedAvailable_empty (stepNext_rx hrx)]

/-- Settles O38: the row the byte selects, and the feed that takes it, leave the step on it. -/
theorem feedOfOneByteIsItsStep : Obligations.FeedOfOneByteIsItsStep := by
  intro s x hs hopen hrx
  refine ⟨stepNext s x, exec_decodeByte_takeByte hs hrx, ?_⟩
  rw [exec_feed hs, feedAvailable_singleton hopen hrx]; rfl

/-- Settles O40: the pump runs the same feed, and neither operation reads the result that FEED leaves. -/
theorem pumpIsAFeedFirst : Obligations.PumpIsAFeedFirst := by
  intro s i hs
  have hfed : (feedEffect s).initialised = true := by
    rw [feedEffect, State.setResult_initialised, feedAvailable_initialised, hs]
  exact ⟨feedEffect s, _, _, afterInit_of_initialised hs _, afterInit_of_initialised hs _,
    afterInit_of_initialised hfed _, afterInit_of_initialised hs _, afterInit_of_initialised hfed _⟩

/-! ## The special-command round trip (R124) -/

/-- The step on the oldest byte is the effect of the row it selects. -/
theorem stepNext_row {s : State} {x : RxByte} {more : List RxByte} {i : Instr} (hrx : s.rx = x :: more)
    (hi : decodeByte s.state x.byte = i) : stepNext s x = wireEffect i (s.takeByte x more) := by
  rw [stepNext, hrx, List.tail_cons, stepByte, State.takeByte_state, hi]

/-- A special command under way: what its bytes have written so far, and the queue and time they leave. -/
def State.midCommand (s : State) (st : DecState) (hold : Byte) (now : Nat) (rx : List RxByte) : State :=
  { s with state := st, spOpcodeHold := hold, now := now, rx := rx, stop := false }

/-- A feed of a special command runs its four rows, stops there and leaves the bytes that follow. -/
theorem feedAvailable_specialCommand {s : State} {op d : Byte} {t0 t1 t2 t3 : Nat} {more : List RxByte}
    (hopen : s.linkOpen = true) (hop : reachesDispatch op = true) (hd : isLiteral d = true)
    (hrx : s.rx = ⟨0x7E#8, t0⟩ :: ⟨0x7A#8, t1⟩ :: ⟨op, t2⟩ :: ⟨d, t3⟩ :: more) :
    feedAvailable s = ((s.midCommand .specialData op t3 more).completeSpecial d, true) := by
  obtain ⟨hpad, hstart⟩ := reachesDispatch_iff.1 hop
  obtain ⟨hdpad, hdstart, hdesc⟩ := isLiteral_iff.1 hd
  have hhead : feedAvailable s = ((feedAvailable
      (s.midCommand .command s.spOpcodeHold t0 (⟨0x7A#8, t1⟩ :: ⟨op, t2⟩ :: ⟨d, t3⟩ :: more))).1, true) :=
    feedAvailable_of_not_stop hopen hrx (stepNext_row (i := .start) hrx (decodeByte_startByte _)) rfl
  have hspecial : feedAvailable
      (s.midCommand .command s.spOpcodeHold t0 (⟨0x7A#8, t1⟩ :: ⟨op, t2⟩ :: ⟨d, t3⟩ :: more)) =
      ((feedAvailable (s.midCommand .specialOpcode s.spOpcodeHold t1 (⟨op, t2⟩ :: ⟨d, t3⟩ :: more))).1, true) :=
    feedAvailable_of_not_stop hopen rfl (stepNext_row (i := .cmdSpecial) rfl decodeByte_command_specialByte) rfl
  have hopcode : feedAvailable (s.midCommand .specialOpcode s.spOpcodeHold t1 (⟨op, t2⟩ :: ⟨d, t3⟩ :: more)) =
      ((feedAvailable (s.midCommand .specialData op t2 (⟨d, t3⟩ :: more))).1, true) :=
    feedAvailable_of_not_stop hopen rfl
      (stepNext_row (i := .spOpcode op) rfl (decodeByte_specialOpcode hpad hstart)) rfl
  have hdata : feedAvailable (s.midCommand .specialData op t2 (⟨d, t3⟩ :: more)) =
      ((s.midCommand .specialData op t3 more).completeSpecial d, true) :=
    feedAvailable_of_stop hopen rfl
      (stepNext_row (i := .spData d) rfl (decodeByte_specialData_literal hdpad hdstart hdesc)) rfl
  rw [hhead, hspecial, hopcode, hdata]

/-- Settles O53: the feed leaves the mailbox full, the two reads of the opcode leave it so, and the read of the data
clears `sp_pending`. -/
theorem specialCommandRoundTrip : Obligations.SpecialCommandRoundTrip := by
  intro s op d t0 t1 t2 t3 more hs hopen hop hd hrx
  have hfeed := exec_feed hs
  rw [feedAvailable_specialCommand hopen hop hd hrx] at hfeed
  exact ⟨_, _, _, _, _, _, hfeed, rfl, rfl, afterInit_of_initialised hs _, rfl, afterInit_of_initialised hs _, rfl,
    afterInit_of_initialised hs _, rfl, afterInit_of_initialised hs _, rfl, afterInit_of_initialised hs _, rfl⟩

/-! ## PAD bytes (R52, R71) -/

/-- The state with another queue, time and `stop`: what PAD bytes may change. -/
def State.withQueue (s : State) (rx : List RxByte) (now : Nat) (stop : Bool) : State :=
  { s with rx := rx, now := now, stop := stop }

theorem dropPads_cons_pad {x : RxByte} (hx : x.byte = Config.padByte) (xs : List RxByte) :
    dropPads (x :: xs) = dropPads xs := List.filter_cons_of_neg (by simp [hx])

theorem dropPads_cons_other {x : RxByte} (hx : x.byte ≠ Config.padByte) (xs : List RxByte) :
    dropPads (x :: xs) = x :: dropPads xs := List.filter_cons_of_pos (by simpa using hx)

/-- An update of registers that the address-write step neither reads nor writes (R86). -/
structure SparesAddressWrite (f : State → State) : Prop where
  cfg : ∀ u, (f u).cfg = u.cfg
  cursor : ∀ u, (f u).cursor = u.cursor
  cursorPlace : ∀ u, (f u).cursorPlace = u.cursorPlace
  setState : ∀ u st, f (u.setState st) = (f u).setState st
  setCursor : ∀ u a, f (u.setCursor a) = (f u).setCursor a
  write : ∀ u i v, f ((u.storeEntry i v).recordActivity) = ((f u).storeEntry i v).recordActivity

theorem SparesAddressWrite.advanceCursor {f : State → State} (hf : SparesAddressWrite f) (s : State) :
    (f s).advanceCursor = f s.advanceCursor := by
  rw [State.advanceCursor, State.advanceCursor, hf.cursor, hf.cfg]
  split
  · exact (hf.setState s .complete).symm
  · rw [hf.setState, hf.setCursor]

/-- Such an update can be made before the step or after it. -/
theorem SparesAddressWrite.addressWrite {f : State → State} (hf : SparesAddressWrite f) (s : State) (v : Byte) :
    (f s).addressWrite v = f (s.addressWrite v) := by
  have hplace := hf.cursorPlace s
  cases hp : s.cursorPlace with
  | below => rw [State.addressWrite_below hp, State.addressWrite_below (hplace.trans hp), hf.advanceCursor]
  | inside i =>
    rw [State.addressWrite_inside hp, State.addressWrite_inside (hplace.trans hp), ← hf.write, hf.advanceCursor]
  | above => rw [State.addressWrite_above hp, State.addressWrite_above (hplace.trans hp), hf.setState]

theorem sparesAddressWrite_withQueue (rx : List RxByte) (stop : Bool) :
    SparesAddressWrite fun u => u.withQueue rx u.now stop :=
  ⟨fun _ => rfl, fun _ => rfl, fun _ => rfl, fun _ _ => rfl, fun _ _ => rfl, fun _ _ _ => rfl⟩

/-- A row reads neither the queue nor `stop`, which it writes itself. -/
theorem wireEffect_withQueue {i : Instr} (hw : isWire i = true) (s : State) (rx : List RxByte) (stop : Bool) :
    wireEffect i (s.withQueue rx s.now stop) = (wireEffect i s).withQueue rx s.now (wireEffect i s).stop := by
  cases i
  case cmdCh k =>
    by_cases hk : groupAccepted s.cfg k = true
    · rw [wireEffect, wireEffect, cmdChEffect_of_accepted hk,
        cmdChEffect_of_accepted (s := s.withQueue rx s.now stop) hk]
      rfl
    · rw [wireEffect, wireEffect, cmdChEffect_of_rejected hk,
        cmdChEffect_of_rejected (s := s.withQueue rx s.now stop) hk]
      rfl
  case dataLit v =>
    have hwrite := (sparesAddressWrite_withQueue rx stop).addressWrite s v
    rw [State.addressWrite_now] at hwrite
    exact congrArg (State.setStop · false) hwrite
  case escVal x =>
    have hwrite := (sparesAddressWrite_withQueue rx stop).addressWrite (s.setState .data) (escapedValue x)
    rw [State.addressWrite_now] at hwrite
    exact congrArg (State.setStop · false) hwrite
  case init | feed | read | setOffset | getOffset | getCount | isIdle | setTimeout | getTimeout | spAvail | readSpOpcode
      | readSpData | shutdown => cases hw
  all_goals rfl

/-- Two states that differ only so take the same byte alike. -/
theorem stepNext_withQueue (s : State) {x : RxByte} {rest rest' : List RxByte} (hrx : s.rx = x :: rest)
    (now : Nat) (stop : Bool) :
    stepNext (s.withQueue (x :: rest') now stop) x = (stepNext s x).withQueue rest' x.now (stepNext s x).stop := by
  rw [stepNext, stepNext, hrx]
  exact wireEffect_withQueue (isWire_decodeByte _ _) (s.takeByte x rest) rest' stop

/-- The loop leaves states that differ only so on a queue and on the queue without its PADs. -/
theorem feedLoop_dropPads (xs : List RxByte) (c c' : Bool) (s : State) (hrx : s.rx = xs) (now : Nat) (stop : Bool) :
    ∃ now' stop', (feedLoop (dropPads xs) c' (s.withQueue (dropPads xs) now stop)).1 =
      (feedLoop xs c s).1.withQueue (dropPads (feedLoop xs c s).1.rx) now' stop' := by
  induction xs generalizing c c' s now stop with
  | nil => exact ⟨now, stop, by simp [feedLoop, dropPads, hrx]⟩
  | cons x rest ih =>
    by_cases hx : x.byte = Config.padByte
    · rw [dropPads_cons_pad hx, feedLoop_cons_of_discarded (by rw [hx]; rfl)]
      exact ih true c' { s with rx := rest, now := x.now, stop := false } rfl now stop
    · rw [dropPads_cons_other hx, feedLoop_queue hrx, feedLoop_queue (s := s.withQueue _ now stop) rfl,
        stepNext_withQueue s hrx]
      cases hstop : (stepNext s x).stop with
      | true => exact ⟨x.now, true, by simp [State.withQueue, stepNext_rx hrx]⟩
      | false =>
        obtain ⟨now', stop', heq⟩ := ih true true (stepNext s x) (stepNext_rx hrx) x.now false
        exact ⟨now', stop', by simpa [State.withQueue] using heq⟩

/-- Settles O54: with an open source the loop leaves the same block and the same queue but for PADs; a closed one leaves
both states as they are. -/
theorem padsAreTransparent : Obligations.PadsAreTransparent := by
  intro s hs
  obtain ⟨now, stop, heq⟩ : ∃ now stop, (feedAvailable (s.withQueue (dropPads s.rx) s.now s.stop)).1 =
      (feedAvailable s).1.withQueue (dropPads (feedAvailable s).1.rx) now stop := by
    cases hlink : s.linkOpen with
    | true =>
      rw [feedAvailable_open hlink, feedAvailable_open (s := s.withQueue (dropPads s.rx) s.now s.stop) hlink]
      exact feedLoop_dropPads s.rx false false s rfl s.now s.stop
    | false =>
      rw [feedAvailable_closed hlink, feedAvailable_closed (s := s.withQueue (dropPads s.rx) s.now s.stop) hlink]
      exact ⟨s.now, s.stop, rfl⟩
  refine ⟨_, _, exec_feed hs, exec_feed (s := s.withQueue (dropPads s.rx) s.now s.stop) hs, ?_⟩
  rw [heq]
  exact ⟨⟨rfl, rfl, rfl, rfl, rfl, rfl, rfl, rfl, rfl, rfl, rfl, rfl, rfl⟩, rfl⟩

end Sys2Proof.Machine
end

section
/-!
PROOF. The host operations one by one (spec/44_host_interface.md): INIT, SET_OFFSET, the getters, the mailbox, SHUTDOWN,
and IS_IDLE in true time (spec/42_idle_monitor.md, R114).
-/

namespace Sys2Proof.Machine

/-! ## Reset (R170) -/

/-- Settles O27: the reset, register by register. -/
theorem initPerformsReset : Obligations.InitPerformsReset :=
  fun n s => ⟨s.initialise n, rfl, rfl, rfl, rfl, rfl, rfl, State.readEntry_of_buf_nil rfl, rfl, rfl, rfl, rfl, rfl,
    rfl, rfl, rfl, rfl, rfl⟩

/-- Settles O28: the values of `State.resetWith` at the parameters of the build. -/
theorem resetStateIsAsGiven : Obligations.ResetStateIsAsGiven :=
  ⟨rfl, rfl, rfl, rfl, rfl, State.readEntry_of_buf_nil rfl, rfl, rfl, rfl⟩

/-! ## SET_OFFSET (R101) -/

/-- Leaving a frame writes `state` alone. -/
theorem leaveFrame_eq_setState (s : State) :
    leaveFrame s = s.setState (if s.state = .data ∨ s.state = .escape then .init else s.state) := by
  rw [← leaveFrame_state]
  unfold leaveFrame
  split <;> rfl

/-- Settles O29: the buffer is empty, so every entry reads 0, and `leaveFrame` writes the receive state. -/
theorem setOffsetRetargetsTheWindow : Obligations.SetOffsetRetargetsTheWindow := by
  intro o s hs
  have hexec := exec_setOffset hs o
  refine ⟨_, hexec, State.readEntry_of_buf_nil (exec_setOffset_buffer hexec).2, ?_⟩
  rw [leaveFrame_eq_setState]
  rfl

/-! ## The getters, the mailbox, SET_TIMEOUT and SHUTDOWN -/

/-- Settles O31: each getter is its register as the result, behind the gate. -/
theorem gettersReturnTheirRegister : Obligations.GettersReturnTheirRegister :=
  fun _ hs => ⟨afterInit_of_initialised hs _, afterInit_of_initialised hs _, afterInit_of_initialised hs _,
    afterInit_of_initialised hs _⟩

/-- Settles O32: the peek without the pump, and the consuming read, behind the gate. -/
theorem mailboxPeekAndConsume : Obligations.MailboxPeekAndConsume :=
  fun _ hs => ⟨afterInit_of_initialised hs _, afterInit_of_initialised hs _⟩

/-- Settles O34: the write behind the gate. -/
theorem setTimeoutWritesTheTimeout : Obligations.SetTimeoutWritesTheTimeout :=
  fun _ _ hs => afterInit_of_initialised hs _

/-- Settles O35: SHUTDOWN closes the source, and a feed from a closed source takes nothing. -/
theorem shutdownSilencesTheByteSource : Obligations.ShutdownSilencesTheByteSource :=
  fun s hs => ⟨{ s with linkOpen := false, result := .none }, afterInit_of_initialised hs _, rfl,
    feedWithNothingAvailable _ hs (.inr rfl)⟩

/-! ## IS_IDLE in true time (R114) -/

/-- The elapsed time is the true time since the last sample, modulo the counter's range. -/
theorem State.elapsed_eq_mod {s : State} {t0 T : Nat} (hlast : s.lastActivity = t0 % s.cfg.timeModulus)
    (hnow : s.now = t0 + T) : s.elapsed = T % s.cfg.timeModulus := by
  have hmod : ((((t0 + T : Nat) : Int) % s.cfg.timeModulus) - ((t0 : Int) % s.cfg.timeModulus)) % s.cfg.timeModulus =
      (((t0 + T : Nat) : Int) - t0) % s.cfg.timeModulus :=
    (Int.mod_modEq _ _).sub (Int.mod_modEq _ _)
  have helapsed := natCast_subMod s.cfg.timeModulus_pos s.sampleNow s.lastActivity
  rw [State.sampleNow, hnow, hlast, Int.natCast_mod, Int.natCast_mod, hmod, Nat.cast_add,
    add_sub_cancel_left] at helapsed
  rw [State.elapsed, State.sampleNow, hnow, hlast]
  exact_mod_cast helapsed

/-- Settles O57: IS_IDLE compares the timeout with `T mod 2^TIME_WIDTH`, which is `T` below the timeout. -/
theorem idleAnswersInTrueTime : Obligations.IdleAnswersInTrueTime := by
  intro s t0 T hs hflag hlast hnow htimeout
  have helapsed := State.elapsed_eq_mod hlast hnow
  refine ⟨fun h => ?early, fun h => ?reached, fun h => ?missed⟩
  case early =>
    refine exec_isIdle_of_elapsed_lt hs hflag ?_
    rwa [helapsed, Nat.mod_eq_of_lt (h.trans htimeout)]
  case reached => exact exec_isIdle_of_timeout_le hs hflag (helapsed ▸ h)
  case missed => exact exec_isIdle_of_elapsed_lt hs hflag (helapsed ▸ h)

/-- A write in the window leaves the flag clear and no time elapsed (R110). -/
theorem dataLitEffect_idleMonitor {s : State} {a : Nat} (ha : s.cursorPlace = .inside a) (v : Byte) :
    (dataLitEffect v s).idleFlag = false ∧ (dataLitEffect v s).elapsed = 0 := by
  have hwrite : dataLitEffect v s = (((s.storeEntry a v).recordActivity).advanceCursor).setStop false := by
    rw [dataLitEffect, State.addressWrite_inside ha]
  have hflag : (dataLitEffect v s).idleFlag = false := by simp [hwrite]
  have hlast : (dataLitEffect v s).lastActivity = s.now % (dataLitEffect v s).cfg.timeModulus := by
    simp [hwrite, State.sampleNow]
  have hnow : (dataLitEffect v s).now = s.now + 0 := by simp [hwrite]
  exact ⟨hflag, (State.elapsed_eq_mod hlast hnow).trans (Nat.zero_mod _)⟩

/-- Settles O58: with no time elapsed, the answer is whether the timeout is 0, and it is what is latched. -/
theorem notIdleDirectlyAfterAnInWindowWrite : Obligations.NotIdleDirectlyAfterAnInWindowWrite := by
  intro s v a hs ha
  obtain ⟨hflag, helapsed⟩ := dataLitEffect_idleMonitor ha v
  have hs' : (dataLitEffect v s).initialised = true := (wireEffect_initialised (.dataLit v) s).trans hs
  have htimeout : (dataLitEffect v s).timeout = s.timeout := wireEffect_timeout (.dataLit v) s
  have hanswer : (dataLitEffect v s).idleAnswer = decide (s.timeout = 0) := by
    simp only [State.idleAnswer_of_not_idleFlag hflag, helapsed, htimeout, Nat.le_zero]
  refine ⟨_, _, afterInit_of_initialised hs _, exec_isIdle hs', ?_, fun h => ?_⟩
  · rw [State.setResult_result, hanswer]
  · rw [State.setResult_idleFlag, State.latchIdle_idleFlag, hanswer]
    exact decide_eq_false (Nat.ne_of_gt h)

end Sys2Proof.Machine
end

section
/-!
PROOF. One step of the machine (spec/44_host_interface.md, R41, R130, R131): what each event on the agenda makes of the
state, and who takes bytes from the queue.
-/

namespace Sys2Proof.Machine

/-! ## The step on each kind of event -/

theorem step_of_idle {s : State} (h : s.agenda = []) : step s = .next s := by
  rw [step, h]; rfl

theorem step_of_arrive {s : State} {bytes : List RxByte} {rest : List Event} (h : s.agenda = .arrive bytes :: rest) :
    step s = .next ((s.nextEvent rest).appendRx bytes) := by
  rw [step, h]; rfl

/-- A request that decodes runs its operation. -/
theorem step_of_instr {s : State} {t : Nat} {r : OpRequest} {rest : List Event} {i : Instr}
    (h : s.agenda = .hostOp t r :: rest) (hi : decodeRequest s.cfg r = .instr i) :
    step s = exec i (s.present t rest) := by
  rw [step, h]
  show runRequest t r rest s = _
  rw [runRequest, hi]

/-- A request that does not is refused with the decoder's reason. -/
theorem step_of_rejected {s : State} {t : Nat} {r : OpRequest} {rest : List Event} {e : DecodeError}
    (h : s.agenda = .hostOp t r :: rest) (he : decodeRequest s.cfg r = .rejected e) :
    step s = .refused (refusalOf e) := by
  rw [step, h]
  show runRequest t r rest s = _
  rw [runRequest, he]

/-- A step that answers held the state, took an arrival, or ran the operation of a request. -/
theorem step_next_cases {s t : State} (h : step s = .next t) :
    (s.agenda = [] ∧ t = s) ∨
    (∃ bytes rest, s.agenda = .arrive bytes :: rest ∧ t = (s.nextEvent rest).appendRx bytes) ∨
    (∃ now r rest i, s.agenda = .hostOp now r :: rest ∧ decodeRequest s.cfg r = .instr i ∧
      exec i (s.present now rest) = .next t) := by
  match ha : s.agenda with
  | [] =>
    rw [step_of_idle ha] at h
    cases h
    exact .inl ⟨rfl, rfl⟩
  | .arrive bytes :: rest =>
    rw [step_of_arrive ha] at h
    cases h
    exact .inr (.inl ⟨bytes, rest, rfl, rfl⟩)
  | .hostOp now r :: rest =>
    cases hi : decodeRequest s.cfg r with
    | instr i => exact .inr (.inr ⟨now, r, rest, i, rfl, hi, step_of_instr ha hi ▸ h⟩)
    | rejected e => rw [step_of_rejected ha hi] at h; cases h

/-- Settles O7: the event's own time is shown, and the outputs of the one before are gone. -/
theorem stepRunsTheDecodedRequest : Obligations.StepRunsTheDecodedRequest :=
  fun _ _ _ _ _ hagenda hi => step_of_instr hagenda hi

/-- Settles O6: the request runs a FEED over one byte. -/
theorem stepRunsTheDecodedByte : Obligations.StepRunsTheDecodedByte := by
  intro s x t r rest hs hopen hrx hagenda hfeed
  obtain ⟨u, hrow, hu⟩ := feedOfOneByteIsItsStep (s.present t rest) x hs hopen hrx
  exact ⟨u, hrow, (step_of_instr hagenda hfeed).trans hu⟩

/-- Settles O8: the two events that run no operation. -/
theorem arrivalsAppendAndIdleHolds : Obligations.ArrivalsAppendAndIdleHolds :=
  ⟨fun _ _ _ hagenda => step_of_arrive hagenda, fun _ hagenda => step_of_idle hagenda⟩

/-! ## Requests that are refused -/

theorem decodeRequest_of_unused {r : OpRequest} (h : 13 ≤ r.id.toNat) (c : Config) :
    decodeRequest c r = .rejected (.unusedOperationId r.id.toNat) := by
  unfold decodeRequest
  split
  case h_14 => rfl
  all_goals omega

theorem withOperand_of_not_fits {fits : Bool} (h : ¬ fits = true) (i : Instr) :
    withOperand fits i = .rejected .operandTooWide := if_neg h

/-- Settles O10: the decoder rejects such a request, and the step refuses what it rejects. -/
theorem requestsOutsideTheRulesAreRefused : Obligations.RequestsOutsideTheRulesAreRefused := by
  refine ⟨fun s t r rest hagenda hid => step_of_rejected hagenda (decodeRequest_of_unused hid s.cfg),
    fun s t r rest hagenda hid hwide => ?address, fun s t r rest hagenda hid hwide => ?time⟩
  case address =>
    have hfits : ¬ fitsAddress s.cfg r.arg = true := fun h => Nat.not_lt.2 hwide (of_decide_eq_true h)
    refine step_of_rejected hagenda (e := .operandTooWide) ?_
    unfold decodeRequest
    obtain hid | hid | hid := hid
    all_goals
      rw [hid]
      exact withOperand_of_not_fits hfits _
  case time =>
    have hfits : ¬ fitsTime s.cfg r.arg = true := fun h => Nat.not_lt.2 hwide (of_decide_eq_true h)
    refine step_of_rejected hagenda (e := .operandTooWide) ?_
    unfold decodeRequest
    rw [hid]
    exact withOperand_of_not_fits hfits _

/-! ## The queue -/

/-- An operation leaves the queue as it is, or takes bytes from its front in a feed from an open source. -/
theorem exec_rx_cases {i : Instr} {s t : State} (h : exec i s = .next t) :
    t.rx = s.rx ∨ (s.linkOpen = true ∧ feeds i = true ∧ ∃ taken, s.rx = taken ++ t.rx) := by
  cases answers_of_exec_next h
  case query r hw =>
    obtain ⟨taken, hpump, hqueue, htaken⟩ := exists_taken_pumpIf (feeds i) s
    rw [State.setResult_rx, hpump]
    obtain rfl | ⟨hfeeds, hopen⟩ := htaken
    · exact .inl rfl
    · exact .inr ⟨hopen, hfeeds, taken, hqueue⟩
  case row | init | setOffset | isIdle | setTimeout | readSpData | shutdown => simp

/-- Settles O9: an arrival appends, and only an operation that feeds takes. -/
theorem bytesAreTakenOnlyInsideAFeed : Obligations.BytesAreTakenOnlyInsideAFeed := by
  intro s t h
  obtain ⟨-, rfl⟩ | ⟨bytes, rest, hagenda, rfl⟩ | ⟨now, r, rest, i, hagenda, hi, hexec⟩ := step_next_cases h
  · exact .inr (.inl rfl)
  · exact .inl ⟨bytes, rest, hagenda, rfl⟩
  · obtain hkept | ⟨hopen, hfeeds, taken, hqueue⟩ := exec_rx_cases hexec
    · exact .inr (.inl hkept)
    · exact .inr (.inr ⟨hopen, now, r, rest, i, taken, hagenda, hi, hfeeds, hqueue⟩)

end Sys2Proof.Machine
end

section
/-!
PROOF. The invariant of the registers' widths and of the register file (spec/10_state.md): the reset state has it and
every step keeps it, operation by operation.
-/

namespace Sys2Proof.Machine

/-! ## The rows -/

theorem State.Inv.advanceCursor {s : State} (h : s.Inv) : s.advanceCursor.Inv := by
  obtain ⟨-, heq⟩ | ⟨htop, heq⟩ := s.advanceCursor_cases
  · rw [heq]
    exact { h with }
  · rw [heq]
    exact { h with cursor := Nat.lt_of_le_of_ne h.cursor htop }

/-- A write in the window lists an index below the capacity, in canonical form. -/
theorem State.Inv.storeEntry {s : State} (h : s.Inv) {i : Nat} (hi : i < s.capacity) (v : Byte) :
    (s.storeEntry i v).Inv :=
  { h with
    bufForm := Memory.wf_write i v h.bufForm
    bufRange := fun c hc => (Memory.mem_write hc).elim (fun hci => hci ▸ hi) (h.bufRange c) }

theorem State.Inv.recordActivity {s : State} (h : s.Inv) : s.recordActivity.Inv :=
  { h with lastActivity := Nat.mod_lt _ s.cfg.timeModulus_pos }

theorem State.Inv.setStop {s : State} (h : s.Inv) (b : Bool) : (s.setStop b).Inv := { h with }

theorem State.Inv.setState {s : State} (h : s.Inv) (st : DecState) : (s.setState st).Inv := { h with }

theorem State.Inv.setResult {s : State} (h : s.Inv) (r : Result) : (s.setResult r).Inv := { h with }

theorem State.Inv.addressWrite {s : State} (h : s.Inv) (v : Byte) : (s.addressWrite v).Inv := by
  cases hp : s.cursorPlace with
  | below => rw [State.addressWrite_below hp]; exact h.advanceCursor
  | inside i =>
    obtain ⟨-, rfl, hi⟩ := windowPlace_eq_inside.1 hp
    rw [State.addressWrite_inside hp]
    exact (h.storeEntry hi v).recordActivity.advanceCursor
  | above => rw [State.addressWrite_above hp]; exact h.setState _

/-- Every row keeps the invariant: a channel command's address is in range, and the rest is the address-write step. -/
theorem wireEffect_keeps_inv {s : State} (h : s.Inv) (i : Instr) : (wireEffect i s).Inv := by
  cases i
  case cmdCh0 => exact { h with cursor := Nat.zero_le _ }
  case cmdCh k =>
    rw [wireEffect]
    by_cases hk : groupAccepted s.cfg k = true
    · rw [cmdChEffect_of_accepted hk]
      exact { h with cursor := startAddress_le_maxAddress hk }
    · rw [cmdChEffect_of_rejected hk]
      exact { h with }
  case dataLit v => exact (h.addressWrite v).setStop false
  case escVal x => exact ((h.setState .data).addressWrite (escapedValue x)).setStop false
  all_goals exact { h with }

theorem pumpIf_keeps_inv {s : State} (h : s.Inv) (pump : Bool) : (pumpIf pump s).Inv :=
  pumpIf_keeps (fun _ _ _ hu => wireEffect_keeps_inv { hu with } _) pump h

/-! ## The operations -/

/-- After reset every register is within its range, whatever the capacity asked for. -/
theorem State.Inv.initialise {s : State} (h : s.Inv) (n : Nat) : (s.initialise n).Inv := by
  obtain ⟨-, htimeout, hlast⟩ := Config.wf_iff.1 h.cfg
  exact {
    cfg := h.cfg
    cursor := Nat.zero_le _
    offset := Nat.zero_le _
    capacity := Nat.min_le_right _ _
    bufForm := rfl
    bufRange := fun _ hc => nomatch hc
    lastActivity := hlast
    timeout := htimeout }

theorem State.Inv.leaveFrame {s : State} (h : s.Inv) : (leaveFrame s).Inv := by
  rw [leaveFrame_eq_setState]
  exact h.setState _

/-- An instruction whose operands fit their widths keeps the invariant. -/
theorem exec_keeps_inv {i : Instr} {s t : State} (h : s.Inv) (hwf : i.wf s.cfg = true) (hexec : exec i s = .next t) :
    t.Inv := by
  cases answers_of_exec_next hexec
  case row => exact wireEffect_keeps_inv h i
  case init n => exact h.initialise n
  case setOffset o =>
    have hzeroed : ((s.writeOffset o).zeroBuffer).Inv :=
      { h with offset := fitsAddress_iff.1 hwf, bufForm := rfl, bufRange := fun _ hc => nomatch hc }
    exact hzeroed.leaveFrame.setResult _
  case query r hw => exact (pumpIf_keeps_inv h _).setResult r
  case setTimeout ms => exact { h with timeout := fitsTime_iff.1 hwf }
  case isIdle | readSpData | shutdown => exact { h with }

/-- Settles O42: an arrival touches no register, and the operation of a request has operands that fit. -/
theorem stepKeepsTheInvariant : Obligations.StepKeepsTheInvariant := by
  intro s t h hstep
  obtain ⟨-, rfl⟩ | ⟨bytes, rest, -, rfl⟩ | ⟨now, r, rest, i, -, hi, hexec⟩ := step_next_cases hstep
  · exact h
  · exact { h with }
  · have hpresent : (s.present now rest).Inv := { h with }
    obtain ⟨-, hwf⟩ := wf_of_decodeRequest hi
    exact exec_keeps_inv hpresent hwf hexec

/-- Settles O43: the open values are words of their widths. -/
theorem resetMeetsTheInvariant : Obligations.ResetMeetsTheInvariant where
  cfg := Config.wf_iff.2 ⟨Nat.le_of_lt_succ Config.openCapMax16.isLt, Config.openRstTimeout.isLt,
    Config.openRstLastActivity.isLt⟩
  cursor := Nat.zero_le _
  offset := Nat.zero_le _
  capacity := Nat.min_le_right _ _
  bufForm := State.reset_buf_wf
  bufRange := fun _ hc => nomatch hc
  lastActivity := Config.openRstLastActivity.isLt
  timeout := Config.openRstTimeout.isLt

end Sys2Proof.Machine
end

section
/-!
PROOF. Two relations that every step keeps (spec/10_state.md R12, R16, R23; spec/40_byte_decoder.md R60, R85). Both
relate states that are equal but for `state`, `cursor` and `sp_opcode_hold`, the registers of the decoder; so a host
operation keeps them as soon as a byte and SET_OFFSET do, which is shown once (`DecoderSimulation`).
-/

namespace Sys2Proof.Machine

/-! ## States equal but for the decoder's own registers -/

/-- `s` with other values in the three registers that no host operation but SET_OFFSET reads. -/
def State.withDecoder (s : State) (st : DecState) (cursor : Nat) (hold : Byte) : State :=
  { s with state := st, cursor := cursor, spOpcodeHold := hold }

/-- A relation that looks at the decoder's own registers only, holds where they agree, and is kept by a byte and by
leaving a frame. -/
structure DecoderSimulation (R : State → State → Prop) : Prop where
  refl : ∀ s, R s s
  form : ∀ {s t}, R s t → t = s.withDecoder t.state t.cursor t.spOpcodeHold
  congr : ∀ {s u st c op}, R s (s.withDecoder st c op) → u.state = s.state → u.cursor = s.cursor →
    u.spOpcodeHold = s.spOpcodeHold → R u (u.withDecoder st c op)
  byte : ∀ {s t}, R s t → ∀ b, R (stepByte b s) (stepByte b t)
  leave : ∀ {s t}, R s t → R (leaveFrame s) (leaveFrame t)

namespace DecoderSimulation

variable {R : State → State → Prop} (hR : DecoderSimulation R)
include hR

/-- An update that neither reads nor writes the decoder's registers keeps the relation. -/
theorem update {s t : State} (h : R s t) (f : State → State)
    (hf : ∀ u st c op, f (u.withDecoder st c op) = (f u).withDecoder st c op) : R (f s) (f t) := by
  have hself : f s = (f s).withDecoder s.state s.cursor s.spOpcodeHold := hf s s.state s.cursor s.spOpcodeHold
  have ht := hR.form h
  rw [ht] at h ⊢
  rw [hf]
  exact hR.congr h (congrArg State.state hself :) (congrArg State.cursor hself :) (congrArg State.spOpcodeHold hself :)

/-- The registers outside the decoder are equal. -/
theorem stop {s t : State} (h : R s t) : t.stop = s.stop := by rw [hR.form h]; rfl
theorem rx {s t : State} (h : R s t) : t.rx = s.rx := by rw [hR.form h]; rfl
theorem linkOpen {s t : State} (h : R s t) : t.linkOpen = s.linkOpen := by rw [hR.form h]; rfl
theorem initialised {s t : State} (h : R s t) : t.initialised = s.initialised := by rw [hR.form h]; rfl

/-- The loop takes the same bytes and gives the same answer. -/
theorem feedLoop_agree (xs : List RxByte) (consumed : Bool) {s t : State} (h : R s t) :
    R (feedLoop xs consumed s).1 (feedLoop xs consumed t).1 ∧
      (feedLoop xs consumed t).2 = (feedLoop xs consumed s).2 := by
  induction xs generalizing consumed s t with
  | nil => exact ⟨h, rfl⟩
  | cons x rest ih =>
    have hnext : R (stepByte x.byte (s.takeByte x rest)) (stepByte x.byte (t.takeByte x rest)) :=
      hR.byte (hR.update h (State.takeByte · x rest) fun _ _ _ _ => rfl) x.byte
    rw [feedLoop_cons, feedLoop_cons, hR.stop hnext]
    split
    · exact ⟨hnext, rfl⟩
    · exact ih true hnext

theorem feedAvailable_agree {s t : State} (h : R s t) :
    R (feedAvailable s).1 (feedAvailable t).1 ∧ (feedAvailable t).2 = (feedAvailable s).2 := by
  rw [feedAvailable, feedAvailable, hR.linkOpen h, hR.rx h]
  split
  · exact hR.feedLoop_agree s.rx false h
  · exact ⟨h, rfl⟩

theorem pumpIf_agree {s t : State} (h : R s t) (pump : Bool) : R (pumpIf pump s) (pumpIf pump t) := by
  rw [pumpIf, pumpIf]
  split
  · exact (hR.feedAvailable_agree h).1
  · exact h

/-- Behind the gate, related states answer related states or are both refused. -/
theorem afterInit_agree {s t u v : State} (h : R s t) (huv : R u v) :
    outcomesAgree R (afterInit s u) (afterInit t v) := by
  rw [afterInit, afterInit, hR.initialised h]
  split
  · exact huv
  · rfl

theorem afterInit_update_agree {s t : State} (h : R s t) (f : State → State)
    (hf : ∀ u st c op, f (u.withDecoder st c op) = (f u).withDecoder st c op) :
    outcomesAgree R (afterInit s (f s)) (afterInit t (f t)) :=
  hR.afterInit_agree h (hR.update h f hf)

/-- A host operation answers alike in related states. -/
theorem exec_agree {s t : State} (h : R s t) {i : Instr} (hw : isWire i = false) :
    outcomesAgree R (exec i s) (exec i t) := by
  cases i
  case init n =>
    have hreset : t.initialise n = s.initialise n := by rw [hR.form h]; rfl
    show R (s.initialise n) (t.initialise n)
    rw [hreset]
    exact hR.refl _
  case feed =>
    obtain ⟨hfeed, hanswer⟩ := hR.feedAvailable_agree h
    refine hR.afterInit_agree h ?_
    rw [feedEffect, feedEffect, hanswer]
    exact hR.update hfeed (State.setResult · _) fun _ _ _ _ => rfl
  case read a pump =>
    exact hR.afterInit_agree h (hR.update (hR.pumpIf_agree h pump) (readEffect a) fun _ _ _ _ => rfl)
  case spAvail pump =>
    exact hR.afterInit_agree h (hR.update (hR.pumpIf_agree h pump) availEffect fun _ _ _ _ => rfl)
  case setOffset o =>
    have hzeroed := hR.update h (fun u => (u.writeOffset o).zeroBuffer) fun _ _ _ _ => rfl
    exact hR.afterInit_agree h (hR.update (hR.leave hzeroed) (State.setResult · .none) fun _ _ _ _ => rfl)
  case getOffset => exact hR.afterInit_update_agree h (fun u => u.setResult (.address u.offset)) fun _ _ _ _ => rfl
  case getCount => exact hR.afterInit_update_agree h (fun u => u.setResult (.address u.capacity)) fun _ _ _ _ => rfl
  case isIdle =>
    exact hR.afterInit_update_agree h (fun u => u.latchIdle.setResult (.bit u.idleAnswer)) fun _ _ _ _ => rfl
  case setTimeout ms =>
    exact hR.afterInit_update_agree h (fun u => (u.writeTimeout ms).setResult .none) fun _ _ _ _ => rfl
  case getTimeout => exact hR.afterInit_update_agree h (fun u => u.setResult (.time u.timeout)) fun _ _ _ _ => rfl
  case readSpOpcode => exact hR.afterInit_update_agree h (fun u => u.setResult (.byte u.spOpcode)) fun _ _ _ _ => rfl
  case readSpData =>
    exact hR.afterInit_update_agree h (fun u => u.clearPending.setResult (.byte u.spData)) fun _ _ _ _ => rfl
  case shutdown =>
    exact hR.afterInit_update_agree h (fun u => (u.setLink false).setResult .none) fun _ _ _ _ => rfl
  all_goals cases hw

/-- So every step answers alike in related states. -/
theorem step_agree {s t : State} (h : R s t) : outcomesAgree R (step s) (step t) := by
  have hagenda : t.agenda = s.agenda := by rw [hR.form h]; rfl
  have hcfg : t.cfg = s.cfg := by rw [hR.form h]; rfl
  match ha : s.agenda with
  | [] =>
    rw [step_of_idle ha, step_of_idle (hagenda.trans ha)]
    exact h
  | .arrive bytes :: rest =>
    rw [step_of_arrive ha, step_of_arrive (hagenda.trans ha)]
    exact hR.update h (fun u => (u.nextEvent rest).appendRx bytes) fun _ _ _ _ => rfl
  | .hostOp now r :: rest =>
    cases hi : decodeRequest s.cfg r with
    | instr i =>
      obtain ⟨hw, -⟩ := wf_of_decodeRequest hi
      rw [step_of_instr ha hi, step_of_instr (hagenda.trans ha) (hcfg ▸ hi)]
      exact hR.exec_agree (hR.update h (State.present · now rest) fun _ _ _ _ => rfl) hw
    | rejected e =>
      rw [step_of_rejected ha hi, step_of_rejected (hagenda.trans ha) (hcfg ▸ hi)]
      rfl

end DecoderSimulation

/-! ## Hidden registers (R12, R16, R23) -/

/-- The relation in terms of the update that makes the second state. -/
theorem sameVisible_iff {s t : State} : SameVisible s t ↔ ∃ c op, t = s.withDecoder s.state c op ∧
    (usesCursor s.state = true → c = s.cursor) ∧ (usesHold s.state = true → op = s.spOpcodeHold) := by
  constructor
  · rintro ⟨hrest, hcursor, hhold⟩
    exact ⟨t.cursor, t.spOpcodeHold, hrest, hcursor, hhold⟩
  · rintro ⟨c, op, rfl, hcursor, hhold⟩
    exact ⟨rfl, hcursor, hhold⟩

/-- After a row that leaves the frame's data and the special command's, both registers are hidden. -/
theorem sameVisible_of_hidden {s t : State} (h : t = s.withDecoder s.state t.cursor t.spOpcodeHold)
    (hcursor : usesCursor s.state = false) (hhold : usesHold s.state = false) : SameVisible s t :=
  ⟨h, fun hu => absurd (hcursor.symm.trans hu) Bool.false_ne_true,
    fun hu => absurd (hhold.symm.trans hu) Bool.false_ne_true⟩

theorem sparesAddressWrite_setHold (op : Byte) : SparesAddressWrite (State.setHold · op) :=
  ⟨fun _ => rfl, fun _ => rfl, fun _ => rfl, fun _ _ => rfl, fun _ _ => rfl, fun _ _ _ => rfl⟩

/-- The address-write step leaves a state in which the holding register is hidden. -/
theorem sameVisible_addressWrite (s : State) (v op : Byte) :
    SameVisible ((s.addressWrite v).setStop false) (((s.setHold op).addressWrite v).setStop false) := by
  rw [(sparesAddressWrite_setHold op).addressWrite s v]
  refine ⟨rfl, fun _ => rfl, fun hu => ?_⟩
  obtain ⟨hdata, -⟩ | ⟨hcomplete, -⟩ := s.addressWrite_progress v
  · rw [State.setStop_state, hdata] at hu; cases hu
  · rw [State.setStop_state, hcomplete] at hu; cases hu

/-- The row a byte selects reads the cursor only in `Data` and `Escape`, the holding register only in `SpecialData` and
`SpecialEscape`. -/
theorem sameVisible_wireEffect {s t : State} (h : SameVisible s t) {i : Instr} (hread : i.readIn s.state = true)
    (hw : isWire i = true) : SameVisible (wireEffect i s) (wireEffect i t) := by
  obtain ⟨c, op, rfl, hcursor, hhold⟩ := sameVisible_iff.1 h
  cases i
  case pad | initSkip | doneSkip => exact ⟨rfl, hcursor, hhold⟩
  case start | cmdSpecial | cmdUnk => exact sameVisible_of_hidden rfl rfl rfl
  case cmdCh0 => exact ⟨rfl, fun _ => rfl, fun hu => (nomatch hu)⟩
  case cmdCh k =>
    rw [wireEffect, wireEffect]
    by_cases hk : groupAccepted s.cfg k = true
    · rw [cmdChEffect_of_accepted hk, cmdChEffect_of_accepted (s := s.withDecoder _ c op) hk]
      exact ⟨rfl, fun _ => rfl, fun hu => (nomatch hu)⟩
    · rw [cmdChEffect_of_rejected hk, cmdChEffect_of_rejected (s := s.withDecoder _ c op) hk]
      exact sameVisible_of_hidden rfl rfl rfl
  case dataEsc =>
    exact ⟨rfl, fun _ => hcursor (by rw [eq_of_beq hread]; rfl), fun hu => (nomatch hu)⟩
  case dataLit v =>
    obtain rfl : c = s.cursor := hcursor (by rw [eq_of_beq hread]; rfl)
    exact sameVisible_addressWrite s v op
  case escVal x =>
    obtain rfl : c = s.cursor := hcursor (by rw [eq_of_beq hread]; rfl)
    exact sameVisible_addressWrite (s.setState .data) (escapedValue x) op
  case spOpcode o => exact ⟨rfl, fun hu => (nomatch hu), fun _ => rfl⟩
  case spEsc => exact ⟨rfl, fun hu => (nomatch hu), fun _ => hhold (by rw [eq_of_beq hread]; rfl)⟩
  case spData d =>
    obtain rfl : op = s.spOpcodeHold := hhold (by rw [eq_of_beq hread]; rfl)
    exact sameVisible_of_hidden rfl rfl rfl
  case spEscVal x =>
    obtain rfl : op = s.spOpcodeHold := hhold (by rw [eq_of_beq hread]; rfl)
    exact sameVisible_of_hidden rfl rfl rfl
  all_goals cases hw

/-- A byte selects the same row in both states, as `state` is equal. -/
theorem sameVisible_stepByte {s t : State} (h : SameVisible s t) (b : Byte) :
    SameVisible (stepByte b s) (stepByte b t) := by
  have hstate : t.state = s.state := by rw [h.rest]
  rw [stepByte, stepByte, hstate]
  exact sameVisible_wireEffect h (readIn_decodeByte s.state b) (isWire_decodeByte s.state b)

/-- Leaving a frame hides the cursor, and elsewhere changes nothing. -/
theorem sameVisible_leaveFrame {s t : State} (h : SameVisible s t) : SameVisible (leaveFrame s) (leaveFrame t) := by
  have hstate : t.state = s.state := by rw [h.rest]
  obtain ⟨c, op, rfl, hcursor, hhold⟩ := sameVisible_iff.1 h
  rw [leaveFrame_eq_setState, leaveFrame_eq_setState, hstate]
  split
  · exact sameVisible_of_hidden rfl rfl rfl
  · exact ⟨rfl, hcursor, hhold⟩

theorem decoderSimulation_sameVisible : DecoderSimulation SameVisible where
  refl s := ⟨rfl, fun _ => rfl, fun _ => rfl⟩
  form {s t} h := by
    have hstate : t.state = s.state := by rw [h.rest]
    rw [hstate]
    exact h.rest
  congr {s u st c op} h hstate hcursor hhold := by
    obtain rfl : st = s.state := congrArg State.state h.rest
    refine ⟨by rw [← hstate]; rfl, fun hu => ?_, fun hu => ?_⟩
    · rw [hcursor]; exact h.cursor (hstate ▸ hu)
    · rw [hhold]; exact h.hold (hstate ▸ hu)
  byte := sameVisible_stepByte
  leave := sameVisible_leaveFrame

/-- Settles O55: the relation is one that bytes and host operations keep. -/
theorem hiddenRegistersAreInvisible : Obligations.HiddenRegistersAreInvisible :=
  fun _ _ h => decoderSimulation_sameVisible.step_agree h

/-! ## `Init` and `Complete` (R60, R85) -/

theorem outsideFrame_iff {st : DecState} : outsideFrame st = true ↔ st = .init ∨ st = .complete := by
  simp [outsideFrame]

/-- The relation in terms of the update that makes the second state. -/
theorem sameButIdleState_iff {s t : State} : SameButIdleState s t ↔ ∃ st, t = s.setState st ∧
    (st = s.state ∨ (outsideFrame s.state = true ∧ outsideFrame st = true)) := by
  constructor
  · rintro ⟨hrest, hstate⟩
    exact ⟨t.state, hrest, hstate⟩
  · rintro ⟨st, rfl, hstate⟩
    exact ⟨rfl, hstate⟩

/-- START begins a frame in both states, and every other byte is discarded in both. -/
theorem sameButIdleState_stepByte {s t : State} (h : SameButIdleState s t) (b : Byte) :
    SameButIdleState (stepByte b s) (stepByte b t) := by
  obtain ⟨st, rfl, rfl | ⟨hs, hst⟩⟩ := sameButIdleState_iff.1 h
  · exact ⟨rfl, .inl rfl⟩
  · by_cases hb : b = Config.startByte
    · subst hb
      exact ⟨rfl, .inl rfl⟩
    · rw [stepByte_outsideFrame (outsideFrame_iff.1 hs) hb,
        stepByte_outsideFrame (s := s.setState st) (outsideFrame_iff.1 hst) hb]
      exact ⟨rfl, .inr ⟨hs, hst⟩⟩

/-- Outside a frame there is none to leave. -/
theorem leaveFrame_of_outsideFrame {s : State} (h : outsideFrame s.state = true) : leaveFrame s = s := by
  unfold leaveFrame
  obtain hs | hs := outsideFrame_iff.1 h <;> rw [hs]

theorem sameButIdleState_leaveFrame {s t : State} (h : SameButIdleState s t) :
    SameButIdleState (leaveFrame s) (leaveFrame t) := by
  obtain ⟨st, rfl, rfl | ⟨hs, hst⟩⟩ := sameButIdleState_iff.1 h
  · exact ⟨rfl, .inl rfl⟩
  · rw [leaveFrame_of_outsideFrame hs, leaveFrame_of_outsideFrame (s := s.setState st) hst]
    exact h

theorem decoderSimulation_sameButIdleState : DecoderSimulation SameButIdleState where
  refl s := ⟨rfl, .inl rfl⟩
  form {s t} h := by
    have hcursor : t.cursor = s.cursor := by rw [h.rest]
    have hhold : t.spOpcodeHold = s.spOpcodeHold := by rw [h.rest]
    rw [hcursor, hhold]
    exact h.rest
  congr {s u st c op} h hstate hcursor hhold := by
    obtain rfl : c = s.cursor := congrArg State.cursor h.rest
    obtain rfl : op = s.spOpcodeHold := congrArg State.spOpcodeHold h.rest
    refine ⟨by rw [← hcursor, ← hhold]; rfl, ?_⟩
    rw [hstate]
    exact h.state
  byte := sameButIdleState_stepByte
  leave := sameButIdleState_leaveFrame

/-- Settles O56: the relation is one that bytes and host operations keep. -/
theorem initAndCompleteBehaveAlike : Obligations.InitAndCompleteBehaveAlike :=
  fun _ _ h => decoderSimulation_sameButIdleState.step_agree h

end Sys2Proof.Machine
end
